-- ==== Sys2Proof/Word.lean ====
section
/-! DEFINITION. The words of the part: bytes, sequence numbers, carrier positions, 32-bit day counters, and the one
saturating count of the manual (00_scope.md, Numbers and units). -/

namespace Sys2Proof

/-- One byte of a frame, a field record or a plate. -/
abbrev Byte := BitVec 8

/-- A station number, 0 to 15 (00_scope.md, Station numbers and role straps). -/
abbrev StationNo := Fin 16

/-- A line sequence number, 0 to 255, taken modulo 256 (R14). -/
abbrev SeqNo := BitVec 8

/-- A carrier position in encoder pulses: a 32-bit count that wraps (00_scope.md, Carrier position). -/
abbrev Position := BitVec 32

/-- A day counter in kg, taken modulo 2^32, two's complement where it is signed (R114, R141). -/
abbrev Kg32 := BitVec 32

/-- A vehicle plate: eight characters, one byte each (00_scope.md, Identifiers; R33). -/
abbrev Plate := List Byte

/-- One more, but not above `cap`: "Error and loss counters saturate at 65,535 and do not wrap" (R13). -/
def bump (cap n : Nat) : Nat := min (n + 1) cap

end Sys2Proof
end

