-- ==== Sys2Proof/Syntax.lean ====
section
/-! DEFINITION. The commands of the part: one constructor of `Instr` for each row of spec/opcode_table.json, with the
values the event brings with it. -/

namespace Sys2Proof

/-- The five roles (00_scope.md, Roles). -/
inductive Role where
  | entry | exit | tip | mill | lab
  deriving DecidableEq, Repr

/-- The three levels of ROLEA and ROLEB (00_scope.md, Table 1). -/
inductive StrapLevel where
  | low | floating | high
  deriving DecidableEq, Repr

/-- The statuses other than GOOD with which a received frame can end (R12). -/
inductive FrameError where
  | crcError | short | long | codeViolation
  deriving DecidableEq, Repr

/-- The header of a received frame, less its kind and its length (Table 2-1): the role code is the three bits as sent. -/
structure FrameHeader where
  station : StationNo
  roleCode : Fin 8
  fresh : Bool
  seq : SeqNo
  deriving DecidableEq, Repr

/-- The identity of a consignment (R21). Two keys are equal when all four parts are equal. -/
structure Key where
  day : Nat
  origin : StationNo
  seq : Nat
  synthetic : Bool
  deriving DecidableEq, Repr

/-- The commands, in the order of spec/opcode_table.json. -/
inductive Instr where
  /-- POWER_ON: power is applied (R43). -/
  | powerOn
  /-- PIN_RESET: RESETN, held low, is released (R43). -/
  | pinReset
  /-- POWER_UP_END: the 8 ms expire and the straps read `station`, `roleA`, `roleB` (R36). -/
  | powerUpEnd (station : StationNo) (roleA roleB : StrapLevel)
  /-- LINE_QUIET: the quiet timer expires (R2). -/
  | lineQuiet
  /-- ATTEMPT_START (R4). -/
  | attemptStart
  /-- ATTEMPT_COMPLETE: the last CRC half-bit went out with no mismatch (R6). -/
  | attemptComplete
  /-- COLLISION: a driven half-bit reads back differently (R7). -/
  | collision
  /-- COLLISION_MARK_END (R7). -/
  | collisionMarkEnd
  /-- BACKOFF_END: the last slot is served (R8). -/
  | backoffEnd
  /-- FRAME_ERROR: a received frame ends with this status (R13). -/
  | frameError (status : FrameError)
  /-- RECEIVE_BEACON: a GOOD frame of kind 01h (R15, R32). -/
  | receiveBeacon (header : FrameHeader) (payload : List Byte)
  /-- RECEIVE_GROSS: a GOOD frame of kind 02h (R24, R26). -/
  | receiveGross (header : FrameHeader) (payload : List Byte)
  /-- RECEIVE_NET: a GOOD frame of kind 03h (R24, R27). -/
  | receiveNet (header : FrameHeader) (payload : List Byte)
  /-- RECEIVE_TIP: a GOOD frame of kind 04h (R97, R28). -/
  | receiveTip (header : FrameHeader) (payload : List Byte)
  /-- RECEIVE_LOT_CRUSHED: a GOOD frame of kind 05h (R149, R29). -/
  | receiveLotCrushed (header : FrameHeader) (payload : List Byte)
  /-- RECEIVE_DAY_END: a GOOD frame of kind 06h (R30). -/
  | receiveDayEnd (header : FrameHeader) (payload : List Byte)
  /-- RECEIVE_DAY_SUMMARY: a GOOD frame of kind 07h (R165, R31). -/
  | receiveDaySummary (header : FrameHeader) (payload : List Byte)
  /-- RECEIVE_UNKNOWN_KIND: a GOOD frame of any other kind (R25). -/
  | receiveUnknownKind (header : FrameHeader) (kind : Byte) (payload : List Byte)
  /-- STARTED_BEACON_DUE (R17). -/
  | startedBeaconDue
  /-- REGULAR_BEACON_DUE (R17). -/
  | regularBeaconDue
  /-- PEER_SILENCE_EXPIRY: the time since the last frame of `peer` reaches the silence period (R16). -/
  | peerSilenceExpiry (peer : StationNo)
  /-- PEER_ABSENCE_TIMEOUT: 10 s have passed since entry to RUN (R18). -/
  | peerAbsenceTimeout
  /-- RECORD_GAP_TIMEOUT (R182). -/
  | recordGapTimeout
  /-- RECORD_DISCARD: a framing error, or a length above 60 (R182). -/
  | recordDiscard
  /-- RECORD_CHECKSUM_ERROR: a complete record with this kind byte and a bad checksum (R183). -/
  | recordChecksumError (kind : Byte)
  /-- RECORD_UNKNOWN_KIND: a complete record with this kind byte, outside the inbound codes (R184). -/
  | recordUnknownKind (kind : Byte)
  /-- CONFIGURE (R38). -/
  | configure (payload : List Byte)
  /-- STATUS-REQUEST (R189). -/
  | statusRequest (payload : List Byte)
  /-- CLEAR (R174). -/
  | clear (payload : List Byte)
  /-- CLEAR-FRESH (R42). -/
  | clearFresh (payload : List Byte)
  /-- RESTART (R44). -/
  | restart (payload : List Byte)
  /-- VEHICLE (R48). -/
  | vehicle (payload : List Byte)
  /-- WEIGHT (R50). -/
  | weight (payload : List Byte)
  /-- WITHDRAW (R11). -/
  | withdraw (payload : List Byte)
  /-- ASSIGN (R74). -/
  | assign (payload : List Byte)
  /-- DISARM (R77). -/
  | disarm (payload : List Byte)
  /-- ANALYSIS (R150). -/
  | analysis (payload : List Byte)
  /-- DAY-END, the field record (R163, R164). -/
  | dayEnd (payload : List Byte)
  /-- READ (R161). -/
  | read (payload : List Byte)
  /-- RELEASE (R162). -/
  | release (payload : List Byte)
  /-- OUTBOUND_ITEM_SENT: the last byte of the outbound item at the head is sent (R185). -/
  | outboundItemSent
  /-- OPEN_ENTRY_EXPIRY: the age timer of the open entry with this key reaches the limit (R66). -/
  | openEntryExpiry (key : Key)
  /-- AWAITING_ENTRY_EXPIRY: the timer of the awaiting entry with this key reaches 24 h (R73). -/
  | awaitingEntryExpiry (key : Key)
  /-- TIPPING_ACTIVE: TIPPING is taken as active (R79). -/
  | tippingActive
  /-- MIN_TIP_TIME_EXPIRY (R80). -/
  | minTipTimeExpiry
  /-- TIPPING_RELEASE: TIPPING is taken as released (R80, R81). -/
  | tippingRelease
  /-- STEP_PULSE: a rising edge of STEP, with DIR read as high (`forward`) or low (R86). -/
  | stepPulse (forward : Bool)
  /-- SPEED_SATURATION: the reference count reaches 4,095 (R89). -/
  | speedSaturation
  /-- STALL_QUIET_INTERVAL (R91). -/
  | stallQuietInterval
  /-- RUN_CONTACT_ACTIVE: RUN is taken as active (R91). -/
  | runContactActive
  /-- RUN_CONTACT_RELEASE: RUN is taken as released (R91). -/
  | runContactRelease
  /-- START_ALLOWANCE_EXPIRY (R91). -/
  | startAllowanceExpiry
  /-- FLOW_PULSE: FLOW has stayed high for 0.5 ms (R120). -/
  | flowPulse
  /-- PERIOD_TIMER_EXPIRY (R122). -/
  | periodTimerExpiry
  /-- PAUSE_LIMIT_EXPIRY (R124). -/
  | pauseLimitExpiry
  /-- COMPLETION_TIMER_EXPIRY: the completion timer of the entry with this key reaches the completion wait (R152). -/
  | completionTimerExpiry (key : Key)
  /-- NOT_CRUSHED_AGE_EXPIRY: the age timer of the entry with this key reaches the not-crushed age (R153). -/
  | notCrushedAgeExpiry (key : Key)
  /-- SUMMARY_WAIT_EXPIRY (R165). -/
  | summaryWaitExpiry
  /-- LINE_ACTIVE: a transition is seen on TLR (R2). -/
  | lineActive
  /-- RESETN_FALL: RESETN falls low (R43, R35). -/
  | resetnFall
  deriving DecidableEq, Repr

end Sys2Proof
end

