-- ==== Sys2Proof/Config.lean ====
section
/-! DEFINITION. What is fixed while the part runs: the shape of the configuration record (Table 2-6), and the two values
the manual leaves open, as constants without a body. -/

namespace Sys2Proof

/-- The four monitor modes, codes 0 to 3 (Tables 2-6 and 9-2). -/
inductive Mode where
  | latched | recover | warn | off
  deriving DecidableEq, Repr

/-- The meter policies, codes 0 and 1 (Table 2-6, field 5 at MILL). -/
inductive MeterPolicy where
  | creditZero | estimate
  deriving DecidableEq, Repr

/-- Fields 2 to 8 at ENTRY and EXIT (Table 2-6, R38). -/
structure WeighSettings where
  capacity : Nat
  band : Nat
  stableCount : Nat
  zeroBand : Nat
  minLoad : Nat
  scaleOverMode : Mode
  scaleOverQual : Nat
  deriving DecidableEq, Repr

/-- Fields 9 and 10 at EXIT (Table 2-6, R38). -/
structure ExitSettings where
  defaultTare : Nat
  openAgeHours : Nat
  deriving DecidableEq, Repr

/-- Fields 2 to 5 at TIP (Table 2-6, R38); `minTipHalves` is in units of 0.5 s. -/
structure TipSettings where
  distance : Nat
  defaultTare : Nat
  defaultLotMass : Nat
  minTipHalves : Nat
  deriving DecidableEq, Repr

/-- Fields 2 to 16 at MILL (Table 2-6, R38); `allowanceHalves` is in units of 0.5 s. -/
structure MillSettings where
  gramsPerPulse : Nat
  periodSeconds : Nat
  lag : Nat
  policy : MeterPolicy
  silentMode : Mode
  silentQual : Nat
  initialRref : Nat
  step : Nat
  window : Nat
  asymmetric : Bool
  minCane : Nat
  speedRange : Nat
  stallMode : Mode
  stallQual : Nat
  allowanceHalves : Nat
  deriving DecidableEq, Repr

/-- Fields 2 to 4 at LAB (Table 2-6, R38). -/
structure LabSettings where
  firstDay : Nat
  completionMinutes : Nat
  notCrushedHours : Nat
  deriving DecidableEq, Repr

/-- The fields from 2 onward, by role. -/
inductive RoleSettings where
  | entry (w : WeighSettings)
  | exit (w : WeighSettings) (x : ExitSettings)
  | tip (t : TipSettings)
  | mill (m : MillSettings)
  | lab (l : LabSettings)
  deriving DecidableEq, Repr

/-- A configuration record that passed every check of R38. -/
structure Settings where
  silenceSeconds : Nat
  forRole : RoleSettings
  deriving DecidableEq, Repr

/-- A peer's last beacon station state: "CONFIG, RUN, or none" (R15; section 1.7). -/
inductive BeaconSeen where
  | nothing | config | run
  deriving DecidableEq, Repr, Inhabited

/-- FREE VALUE (log 12). What the peer table records as station state from a beacon whose payload is empty or whose first
byte is neither 1 nor 2: "The peer table records the station state of every beacon that reaches it (R15), including a
malformed one" (R32), and no rule says what such a byte is recorded as. -/
opaque Config.malformedBeaconState : List Byte → BeaconSeen

/-- FREE VALUE (log 12). Whether the peer table takes a beacon whose payload has no second byte as a started beacon:
the update of R15 comes before the length check of R25, and no rule gives the started field of such a payload. -/
opaque Config.malformedBeaconStarted : List Byte → Bool

end Sys2Proof
end

