-- ==== Sys2Proof/Machine/State.lean ====
section
/-! DEFINITION. The state of the part: one record per block, as the manual gives each block its state, the queue of
waiting commands, and the state right after power-on. Capacities and ranges are kept by the operations. -/

namespace Sys2Proof.Machine

/-- No command ends in a fault: every row of the table has an effect the manual gives, and the manual's errors are
counters, replies, monitors and MUTE. Nothing raises this, so it is safe: the type has no value. -/
inductive Fault where
  deriving DecidableEq, Repr

/-- Why a step can be refused. -/
inductive Refusal where
  /-- Raised only by an arm of `exec` for a command without a meaning; no arm does. Safe: a refused step proves nothing. -/
  | notModelled (mnemonic : String)
  deriving DecidableEq, Repr

/-! ### The station as a whole -/

/-- The station states (03_station_start_up_and_configuration.md). -/
inductive StationState where
  | powerUp | config | run | mute
  deriving DecidableEq, Repr

/-- The causes of MUTE (R36, R19, R20; Table 2-7). -/
inductive MuteCause where
  | noCause | strap | duplicateStation | duplicateRole
  deriving DecidableEq, Repr

/-- What belongs to the part as a whole (R35 to R46). -/
structure Part where
  stationState : StationState
  muteCause : MuteCause
  station : StationNo
  role : Option Role
  fresh : Bool
  settings : Option Settings
  day : Nat
  resetLow : Bool
  powerUpMs : Nat
  deriving DecidableEq, Repr

/-! ### Notices (02_notices.md) -/

/-- The kinds of accounting notice (R24). -/
inductive NoticeKind where
  | gross | net | tip | lotCrushed | dayEnd | daySummary
  deriving DecidableEq, Repr

/-- A lot key (R22). -/
structure LotKey where
  key : Key
  k : Nat
  m : Nat
  deriving DecidableEq, Repr

/-- The lot flags of Table 2-3. -/
structure LotFlags where
  synthetic : Bool
  grossUnknown : Bool
  lateEntry : Bool
  positionSuspect : Bool
  netCorrected : Bool
  overCredited : Bool
  estimated : Bool
  ageSaturated : Bool
  notTracked : Bool
  deriving DecidableEq, Repr

/-- No lot flag set. -/
def LotFlags.clear : LotFlags := ⟨false, false, false, false, false, false, false, false, false⟩

/-- GROSS (R26). -/
structure GrossNotice where
  key : Key
  plate : Plate
  grower : Nat
  gross : Nat
  deriving DecidableEq, Repr

/-- The basis of a NET (R27). -/
inductive Basis where
  | weighed | estimated | defaulted
  deriving DecidableEq, Repr

/-- NET (R27). -/
structure NetNotice where
  key : Key
  plate : Plate
  grower : Nat
  gross : Nat
  tare : Nat
  net : Nat
  basis : Basis
  tareExceeds : Bool
  deriving DecidableEq, Repr

/-- TIP (R28). -/
structure TipNotice where
  lot : LotKey
  mass : Nat
  ageStart : Nat
  ageEnd : Nat
  distance : Nat
  flags : LotFlags
  attempt : Nat
  deriving DecidableEq, Repr

/-- The cause of a LOT-CRUSHED (R29). -/
inductive LotCause where
  | crushed | notTracked
  deriving DecidableEq, Repr

/-- LOT-CRUSHED (R29). -/
structure LotCrushedNotice where
  lot : LotKey
  crushed : Nat
  creditedMeasured : Nat
  creditedEstimated : Nat
  flags : LotFlags
  cause : LotCause
  shareCount : Nat
  deriving DecidableEq, Repr

/-- DAY-END (R30). -/
structure DayEndNotice where
  closing : Nat
  newDay : Nat
  deriving DecidableEq, Repr

/-- The twelve counters of a DAY-SUMMARY, in the order of R31. -/
structure MillCounters where
  entered : Kg32
  carriedIn : Kg32
  corrections : Kg32
  crushed : Kg32
  onCarrier : Kg32
  writtenOff : Kg32
  measured : Kg32
  creditedMeasured : Kg32
  creditedEstimated : Kg32
  unallocated : Kg32
  periods : Nat
  forced : Nat
  deriving DecidableEq, Repr

/-- DAY-SUMMARY (R31). -/
structure DaySummary where
  day : Nat
  counters : MillCounters
  deriving DecidableEq, Repr

/-- An accounting notice (R24). -/
inductive Notice where
  | gross (n : GrossNotice)
  | net (n : NetNotice)
  | tip (n : TipNotice)
  | lotCrushed (n : LotCrushedNotice)
  | dayEnd (n : DayEndNotice)
  | daySummary (n : DaySummary)
  deriving DecidableEq, Repr

/-- BEACON (R32); `config` tells a station state of CONFIG from RUN. -/
structure Beacon where
  config : Bool
  started : Bool
  debtSaturated : Bool
  day : Nat
  summary : BitVec 16
  queueDepth : Nat
  speed : Nat
  deriving DecidableEq, Repr

/-! ### Line interface (01_the_tally_line.md) -/

/-- The quiet detector (R2). -/
inductive QuietState where
  | active | quiet
  deriving DecidableEq, Repr

/-- The transmitter (section 1.2). -/
inductive TxState where
  | idle | waiting | sending | mark | backoff
  deriving DecidableEq, Repr

/-- Which frame the transmitter has in hand (R3). -/
inductive InHand where
  | startedBeacon | regularBeacon | queueHead
  deriving DecidableEq, Repr

/-- The line receiver (R12). -/
inductive LineRx where
  | waitQuiet
  /-- HUNT, with the bits seen since the search began, at most the last 16. -/
  | hunt (last : List Bool)
  /-- HEADER, with the bits taken since the sync byte. -/
  | header (bits : List Bool)
  /-- BODY, with the bits taken since the sync byte. -/
  | body (bits : List Bool)
  deriving DecidableEq, Repr

/-- The age counter pair of a queued TIP notice, with its AGE-SATURATED mark (R71, R84). -/
structure AgePair where
  ageStart : Nat
  ageEnd : Nat
  saturated : Bool
  deriving DecidableEq, Repr

/-- An entry of the transmit queue (R10). -/
structure QueueEntry where
  notice : Notice
  seq : SeqNo
  report : Bool
  begun : Bool
  ages : Option AgePair
  deriving DecidableEq, Repr

/-- The counters of R13 and R25. -/
structure LineCounters where
  crcError : Nat
  short : Nat
  long : Nat
  codeViolation : Nat
  badSource : Nat
  noticesLost : Nat
  collisions : Nat
  unknownKind : Nat
  malformed : Nat
  deriving DecidableEq, Repr

/-- The line interface. `quietTicks`, `txTicks` and `partSlot` count ticks of 2 µs (log 2), and so does `bitTicks`, the
receiver's bit clock: the ticks since the last mid-bit transition, none before the first (R1, R12). -/
structure LineInterface where
  quiet : QuietState
  quietTicks : Nat
  tx : TxState
  inHand : Option InHand
  frame : List Byte
  txTicks : Nat
  slotsLeft : Nat
  partSlot : Nat
  collisions : Nat
  queue : List QueueEntry
  lastSeq : SeqNo
  rx : LineRx
  bitTicks : Option Nat
  startedSent : Bool
  beaconTimer : Option Nat
  counters : LineCounters
  deriving DecidableEq, Repr

/-! ### Peer table (section 1.7) -/

/-- The state of a peer entry (section 1.7). -/
inductive PeerState where
  | absent | heard | silent
  deriving DecidableEq, Repr

/-- One peer entry (section 1.7). -/
structure PeerEntry where
  state : PeerState
  role : Option Role
  lastSeq : Option SeqNo
  missed : Nat
  roleChanges : Nat
  fresh : Bool
  beaconSeen : BeaconSeen
  sinceMs : Nat
  deriving DecidableEq, Repr

/-- The peer table and the 10 s measure of R18. -/
structure PeerTable where
  peers : Vector PeerEntry 16
  runMs : Nat
  deriving DecidableEq, Repr

/-! ### Weigh unit (04_weighbridge_stations.md) -/

/-- The capture machine (R47). -/
inductive CaptureState where
  | idle | armed | settling
  deriving DecidableEq, Repr

/-- The vehicle in hand: a plate, and a grower at ENTRY (R47). -/
structure Vehicle where
  plate : Plate
  grower : Option Nat
  deriving DecidableEq, Repr

/-- An entry of the open consignment table (R61). -/
structure OpenEntry where
  key : Key
  plate : Plate
  grower : Nat
  gross : Nat
  ageMs : Nat
  deriving DecidableEq, Repr

/-- An entry of a vehicle tare table (R68). -/
structure TareEntry where
  plate : Plate
  tare : Nat
  deriving DecidableEq, Repr

/-- The weigh unit (R47). -/
structure WeighUnit where
  capture : CaptureState
  vehicle : Option Vehicle
  zeroSeen : Bool
  runCount : Nat
  runCentre : Option Int
  consSeq : Nat
  openTable : List OpenEntry
  tares : List TareEntry
  deriving DecidableEq, Repr

/-! ### Tip unit (05_tippler_station_and_carrier_counting.md) -/

/-- The tip session machine (R71). -/
inductive SessionState where
  | idle | tipping | settle
  deriving DecidableEq, Repr

/-- An entry of the awaiting table (R72). -/
structure AwaitingEntry where
  key : Key
  plate : Plate
  gross : Nat
  ageMs : Nat
  deriving DecidableEq, Repr

/-- The arming record (R75, R76): `masses` are the part masses from part 1 on. -/
structure Arming where
  key : Key
  grossUnknown : Bool
  m : Nat
  next : Nat
  masses : List Nat
  deriving DecidableEq, Repr

/-- The tip unit (R71). `tipLevel` is the taken level of TIPPING, and `tipSteady` the ticks for which the pin has steadily
differed from it (R78). -/
structure TipUnit where
  awaiting : List AwaitingEntry
  tares : List TareEntry
  arming : Option Arming
  synSeq : Nat
  session : SessionState
  tipLevel : Bool
  tipSteady : Nat
  sessionAge : Option Nat
  overrunMark : Bool
  minTipMs : Nat
  deriving DecidableEq, Repr

/-! ### Carrier counter (R85, R90) -/

/-- A running speed measurement (R89). -/
structure SpeedMeasure where
  cycles : Nat
  pulses : Nat
  deriving DecidableEq, Repr

/-- The carrier counter (R85) with the stall observation state of MILL (R90). `runLevel` is the taken level of RUN, `runSteady`
the ticks for which the pin has steadily differed from it (R90), and `lastStall` says that the latest observation was a stall
observation (R92), which a release of RUN does not change (log 37). -/
structure CarrierCounter where
  p : Position
  debt : Nat
  speed : Nat
  measure : Option SpeedMeasure
  runLevel : Bool
  runSteady : Nat
  withholding : Bool
  runPulses : Nat
  allowanceMs : Nat
  quietCycles : Nat
  lastStall : Bool
  deriving DecidableEq, Repr

/-! ### Crush line (06_the_crush_line.md) -/

/-- The state of a lot (R94). -/
inductive LotState where
  | onCarrier | crushing | draining
  deriving DecidableEq, Repr

/-- A lot (R93). -/
structure Lot where
  lot : LotKey
  front : Position
  back : Position
  span : Nat
  spanRem : Nat
  massRem : Nat
  crushed : Nat
  creditedMeasured : Nat
  creditedEstimated : Nat
  outstanding : Nat
  shareCount : Nat
  state : LotState
  flags : LotFlags
  deriving DecidableEq, Repr

/-- An entry of the pending-net table (R113). -/
structure PendingNet where
  key : Key
  net : Nat
  deriving DecidableEq, Repr

/-- The crush line (R96, R114). -/
structure CrushLine where
  lots : List Lot
  pendingNets : List PendingNet
  entered : Kg32
  carriedIn : Kg32
  corrections : Kg32
  crushed : Kg32
  writtenOff : Kg32
  deriving DecidableEq, Repr

/-! ### Juice attributor (07_juice_metering_and_attribution.md) -/

/-- A share: one lot's mass crushed in one period (R119). -/
structure Share where
  lot : LotKey
  mass : Nat
  deriving DecidableEq, Repr

/-- A closed breakdown (R119). -/
structure Breakdown where
  number : BitVec 32
  shares : List Share
  attributed : Bool
  deriving DecidableEq, Repr

/-- The juice attributor (R118, R141). `flowTicks` are the ticks for which FLOW has stayed high since a rising edge, none when
no pulse is to come of it (R120). -/
structure JuiceAttributor where
  isOpen : Bool
  k : BitVec 32
  shares : List Share
  pulses : Nat
  residue : Nat
  runningMs : Nat
  pausedMs : Nat
  isPaused : Bool
  ring : List Breakdown
  rref : Nat
  measured : Kg32
  creditedMeasured : Kg32
  creditedEstimated : Kg32
  unallocated : Kg32
  periods : Nat
  forced : Nat
  flowTicks : Option Nat
  deriving DecidableEq, Repr

/-! ### Record assembler (08_consignment_closing_and_the_record_store.md) -/

/-- Plate, grower and gross (R145). -/
structure GrossGroup where
  plate : Plate
  grower : Nat
  gross : Nat
  deriving DecidableEq, Repr

/-- Tare, net and basis (R145). -/
structure NetGroup where
  tare : Nat
  net : Nat
  basis : Basis
  deriving DecidableEq, Repr

/-- An analysis (R151). -/
structure Analysis where
  brix : Nat
  pol : Nat
  deriving DecidableEq, Repr

/-- The closing causes (R152 to R154). -/
inductive CloseCause where
  | complete | lapsed | notCrushed
  deriving DecidableEq, Repr

/-- The record flags (below Table 2-10). -/
structure RecordFlags where
  noAnalysis : Bool
  noNet : Bool
  partsMissing : Bool
  millBasis : Bool
  brixZero : Bool
  basisZero : Bool
  reanalysed : Bool
  deriving DecidableEq, Repr

/-- The analysis group of a closed record: the analysis and the figures of R157 and R158 that rest on it. -/
structure AnalysisFigures where
  brix : Nat
  pol : Nat
  purity : Nat
  sucrose : Nat
  sucrosePerTonne : Nat
  deriving DecidableEq, Repr

/-- A closed consignment record, at full value (R155 to R158). -/
structure ConsRecord where
  key : Key
  cause : CloseCause
  flags : RecordFlags
  lotFlags : LotFlags
  gross : Option GrossGroup
  net : Option NetGroup
  massBasis : Nat
  m : Nat
  parts : Nat
  crushed : Nat
  creditedMeasured : Nat
  creditedEstimated : Nat
  juice : Nat
  juicePerTonne : Nat
  analysis : Option AnalysisFigures
  deriving DecidableEq, Repr

/-- The LAB day totals (R166). -/
structure DayTotals where
  records : Nat
  netSum : Nat
  juiceSum : Nat
  sucroseSum : Nat
  deriving DecidableEq, Repr

/-- A day record (R166): `mill` is none when it is marked MILL-ABSENT (R165). -/
structure DayRecord where
  day : Nat
  totals : DayTotals
  mill : Option MillCounters
  deriving DecidableEq, Repr

/-- A closed record: an item of the ready list and of the record store (R159). -/
inductive Closed where
  | cons (r : ConsRecord)
  | day (r : DayRecord)
  deriving DecidableEq, Repr

/-- An assembly entry (R145). It is READY when `closed` holds its record, and OPEN otherwise (R155). -/
structure AsmEntry where
  key : Key
  gross : Option GrossGroup
  net : Option NetGroup
  m : Option Nat
  parts : List Nat
  crushed : Nat
  creditedMeasured : Nat
  creditedEstimated : Nat
  flags : LotFlags
  analysis : Option Analysis
  reanalysed : Bool
  ageMs : Nat
  completionMs : Option Nat
  closed : Option ConsRecord
  deriving DecidableEq, Repr

/-- A running summary wait, with the totals sampled for its day record (R164). -/
structure SummaryWait where
  day : Nat
  totals : DayTotals
  timerMs : Nat
  deriving DecidableEq, Repr

/-- The record assembler (R144). -/
structure RecordAssembler where
  table : List AsmEntry
  ready : List Closed
  store : List Closed
  readCount : Nat
  wait : Option SummaryWait
  totals : DayTotals
  deriving DecidableEq, Repr

/-! ### Monitor unit (09_monitors_and_degraded_accounting.md) -/

/-- The eight monitors (Table 2-9). -/
inductive MonitorId where
  | scaleOver | carrierStall | reverseOverrun | meterSilent | meterOverrange | peerSilent | lineCongestion | storeFull
  deriving DecidableEq, Repr

/-- A monitor record (R167). -/
structure MonitorRec where
  mode : Option Mode
  qual : Nat
  count : Nat
  condition : Bool
  active : Bool
  latched : Bool
  deriving DecidableEq, Repr

/-- The monitor unit: the records in the order of Table 2-9. -/
structure MonitorUnit where
  recs : Vector MonitorRec 8
  deriving DecidableEq, Repr

/-! ### Field port (10_field_port.md) -/

/-- The reply codes (Table 2-8). -/
inductive ReplyCode where
  | accepted | format | wrongRole | wrongState | outOfRange | busy | full | unknown | late | dayUnknown | empty
  deriving DecidableEq, Repr

/-- What a SENT or NOTICE-LOST names beside the kind (Table 2-7): a key, the closing day of a DAY-END, or nothing. -/
inductive NoticeName where
  | key (key : Key)
  | closing (day : Nat)
  | nothing
  deriving DecidableEq, Repr

/-- An item of the outbound queue: a reply, an answer or an event (R185, Table 2-7). -/
inductive OutItem where
  | reply (kind : Byte) (code : ReplyCode) (detail : Nat)
  | status (payload : List Byte)
  | consignmentRecord (r : ConsRecord)
  | dayRecord (r : DayRecord)
  | captured (mass : Nat)
  | sent (kind : NoticeKind) (name : NoticeName)
  | cancelled (plate : Plate)
  | unmatchedTare (plate : Plate) (tare : Nat)
  | tipped (lot : LotKey)
  | notTracked (lot : LotKey) (mass : Nat)
  | monitor (id : MonitorId) (active : Bool)
  | noticeLost (kind : NoticeKind) (name : NoticeName)
  | dayChanged (previous newDay : Nat)
  deriving DecidableEq, Repr

/-- The field port receiver (R182); `stopped` is POWER-UP (R35). -/
inductive FieldRx where
  | stopped | hunt | kind
  | length (kind : Byte)
  | payload (kind : Byte) (length : Nat) (taken : List Byte)
  | check (kind : Byte) (payload : List Byte)
  deriving DecidableEq, Repr

/-- The field port (R181 to R190). `outTicks` counts ticks of 2 µs since the head item began to be sent, `gapTicks` since the
last byte of the record being received (R182). -/
structure FieldPort where
  out : List OutItem
  outTicks : Nat
  rx : FieldRx
  gapTicks : Nat
  discarded : Nat
  eventsDropped : Nat
  deriving DecidableEq, Repr

/-- The model's own field: the prescalers from the 2 µs tick to the millisecond and to the 4,000 Hz reference (log 2). -/
structure Clock where
  inMs : Nat
  inCycle : Nat
  deriving DecidableEq, Repr

/-- A change to come: `wait` ticks after the one before it, or after now, the level becomes `level`. -/
structure Change where
  wait : Nat
  level : Bool
  deriving DecidableEq, Repr

/-- A level that the outside drives: as it is now, and its changes to come, in order of time. -/
structure Wave where
  level : Bool
  next : List Change
  deriving DecidableEq, Repr

/-- One byte on RXD: taken, at the middle of its stop bit, `wait` ticks after the one before it, or after now, with its levels
from the start bit on (R181). -/
structure SerialByte where
  wait : Nat
  levels : List Bool
  deriving DecidableEq, Repr

/-- The straps STN0 to STN3, ROLEA and ROLEB (00_scope.md, Table 1). -/
structure Straps where
  station : StationNo
  roleA : StrapLevel
  roleB : StrapLevel
  deriving DecidableEq, Repr

/-- The input pins, as the outside drives them now and is about to drive them (log 35): the line as the other stations drive
it, high where none of them drives low, with TLR as it last read; the bytes on RXD; the contacts TIPPING and RUN, active low;
FLOW, STEP and DIR; and the straps. -/
structure Wires where
  line : Wave
  tlr : Bool
  rxd : List SerialByte
  tipping : Wave
  run : Wave
  flow : Wave
  stepPin : Wave
  dir : Wave
  straps : Straps
  deriving DecidableEq, Repr

/-- The state of the part, and the commands waiting, first in first out. -/
structure State where
  part : Part
  li : LineInterface
  pt : PeerTable
  wu : WeighUnit
  tu : TipUnit
  cc : CarrierCounter
  cl : CrushLine
  ja : JuiceAttributor
  ra : RecordAssembler
  mu : MonitorUnit
  fp : FieldPort
  clock : Clock
  wires : Wires
  pending : List Instr
  deriving DecidableEq, Repr

/-! ### Reset values -/

/-- All error counters at 0 (R13, R25). -/
def LineCounters.zero : LineCounters := ⟨0, 0, 0, 0, 0, 0, 0, 0, 0⟩

/-- The line interface after power-on and pin reset (R2, R10, R12, R14). -/
def LineInterface.reset : LineInterface where
  quiet := .active
  quietTicks := 0
  tx := .idle
  inHand := none
  frame := []
  txTicks := 0
  slotsLeft := 0
  partSlot := 0
  collisions := 0
  queue := []
  lastSeq := 255
  rx := .waitQuiet
  bitTicks := none
  startedSent := false
  beaconTimer := none
  counters := .zero

/-- A peer entry after power-on and pin reset (section 1.7). -/
def PeerEntry.absent : PeerEntry := ⟨.absent, none, none, 0, 0, false, .nothing, 0⟩

/-- The peer table after power-on and pin reset (section 1.7, R43). -/
def PeerTable.reset : PeerTable := ⟨Vector.replicate 16 PeerEntry.absent, 0⟩

/-- The weigh unit at reset and at entry to RUN (R47). -/
def WeighUnit.reset : WeighUnit := ⟨.idle, none, false, 0, none, 1, [], []⟩

/-- The tip unit at reset and at entry to RUN (R71). -/
def TipUnit.reset : TipUnit := ⟨[], [], none, 1, .idle, false, 0, none, false, 0⟩

/-- The carrier counter at reset and at entry to RUN (R85, R90). -/
def CarrierCounter.reset : CarrierCounter := ⟨0, 0, 4095, none, false, 0, false, 0, 0, 0, false⟩

/-- The crush line at reset and at entry to RUN (R96). -/
def CrushLine.reset : CrushLine := ⟨[], [], 0, 0, 0, 0, 0⟩

/-- The juice attributor at power-on and pin reset (R118): no period open. -/
def JuiceAttributor.reset : JuiceAttributor := ⟨false, 0, [], 0, 0, 0, 0, false, [], 0, 0, 0, 0, 0, 0, 0, none⟩

/-- The LAB day totals at 0 (R144, R166). -/
def DayTotals.zero : DayTotals := ⟨0, 0, 0, 0⟩

/-- The record assembler at reset and at entry to RUN (R144). -/
def RecordAssembler.reset : RecordAssembler := ⟨[], [], [], 0, none, .zero⟩

/-- An idle monitor record with this mode and qualification (R167). -/
def MonitorRec.idle (mode : Option Mode) (qual : Nat) : MonitorRec := ⟨mode, qual, 0, false, false, false⟩

/-- The monitor records after power-on and pin reset: "fixed ones set; configured ones none" (R167, Table 9-1). The
qualification of a record without a mode is 1, the least the manual has; no rule reads it there. -/
def MonitorUnit.reset : MonitorUnit where
  recs := #v[.idle none 1, .idle none 1, .idle (some .recover) 1, .idle none 1, .idle (some .warn) 1,
    .idle (some .warn) 1, .idle (some .recover) 8, .idle (some .recover) 1]

/-- The field port in POWER-UP (R35, R185, R190). -/
def FieldPort.reset : FieldPort := ⟨[], 0, .stopped, 0, 0, 0⟩

/-- A level that stays. -/
def Wave.still (level : Bool) : Wave := ⟨level, []⟩

/-- Nothing drives the pins: "An idle line therefore reads high" (section 1.1), the pull-ups of TIPPING and RUN read
inactive (R78, R90). DESIGN CHOICE (log 35): FLOW, STEP, DIR and the straps read low. -/
def Wires.idle : Wires where
  line := .still true
  tlr := true
  rxd := []
  tipping := .still true
  run := .still true
  flow := .still false
  stepPin := .still false
  dir := .still false
  straps := ⟨0, .low, .low⟩

/-- The part in POWER-UP (R35, R43). The station number is not yet sampled and stands at 0 (DESIGN CHOICE, log 6). -/
def Part.reset : Part where
  stationState := .powerUp
  muteCause := .noCause
  station := 0
  role := none
  fresh := true
  settings := none
  day := 0
  resetLow := false
  powerUpMs := 0

/-- The part right after power-on (R43): POWER-UP, the fresh flag set, every queue, table and counter clear. -/
def State.reset : State where
  part := .reset
  li := .reset
  pt := .reset
  wu := .reset
  tu := .reset
  cc := .reset
  cl := .reset
  ja := .reset
  ra := .reset
  mu := .reset
  fp := .reset
  clock := ⟨0, 0⟩
  wires := .idle
  pending := []

end Sys2Proof.Machine
end

