-- ==== Sys2Proof/Machine/Flags.lean ====
section
/-! DEFINITION. The flag words of the manual: lot flags (Table 2-3), record flags (below Table 2-10) and the monitor
summary (Table 2-9, R177). -/

namespace Sys2Proof.Machine

/-- The weight of bit `i` when the flag is set: "A flag is set when its bit is 1" (R33). -/
def flagBit (i : Nat) (b : Bool) : Nat := if b then 2 ^ i else 0

/-- Bit `i` of a flag word (R33). -/
def bitOf (i v : Nat) : Bool := v / 2 ^ i % 2 == 1

/-- The lot flags as sent: bits 9 to 15 are sent as 0 (Table 2-3). -/
def LotFlags.toNat (f : LotFlags) : Nat :=
  flagBit 0 f.synthetic + flagBit 1 f.grossUnknown + flagBit 2 f.lateEntry + flagBit 3 f.positionSuspect +
  flagBit 4 f.netCorrected + flagBit 5 f.overCredited + flagBit 6 f.estimated + flagBit 7 f.ageSaturated +
  flagBit 8 f.notTracked

/-- The lot flags of a received word: bits 9 to 15 name no flag (Table 2-3; log 22). -/
def LotFlags.ofNat (v : Nat) : LotFlags where
  synthetic := bitOf 0 v
  grossUnknown := bitOf 1 v
  lateEntry := bitOf 2 v
  positionSuspect := bitOf 3 v
  netCorrected := bitOf 4 v
  overCredited := bitOf 5 v
  estimated := bitOf 6 v
  ageSaturated := bitOf 7 v
  notTracked := bitOf 8 v

/-- The OR of two lot flag words (R149). -/
def LotFlags.or (f g : LotFlags) : LotFlags where
  synthetic := f.synthetic || g.synthetic
  grossUnknown := f.grossUnknown || g.grossUnknown
  lateEntry := f.lateEntry || g.lateEntry
  positionSuspect := f.positionSuspect || g.positionSuspect
  netCorrected := f.netCorrected || g.netCorrected
  overCredited := f.overCredited || g.overCredited
  estimated := f.estimated || g.estimated
  ageSaturated := f.ageSaturated || g.ageSaturated
  notTracked := f.notTracked || g.notTracked

/-- The record flags as sent: bits 7 to 15 are sent as 0 (below Table 2-10). -/
def RecordFlags.toNat (f : RecordFlags) : Nat :=
  flagBit 0 f.noAnalysis + flagBit 1 f.noNet + flagBit 2 f.partsMissing + flagBit 3 f.millBasis +
  flagBit 4 f.brixZero + flagBit 5 f.basisZero + flagBit 6 f.reanalysed

/-- The number of a monitor (Table 2-9). -/
def MonitorId.idx : MonitorId → Fin 8
  | .scaleOver => 0
  | .carrierStall => 1
  | .reverseOverrun => 2
  | .meterSilent => 3
  | .meterOverrange => 4
  | .peerSilent => 5
  | .lineCongestion => 6
  | .storeFull => 7

/-- The monitors in order of number (Table 2-9). -/
def MonitorId.all : List MonitorId :=
  [.scaleOver, .carrierStall, .reverseOverrun, .meterSilent, .meterOverrange, .peerSilent, .lineCongestion, .storeFull]

/-- The monitor summary: bit n is the active flag of monitor n and bit n + 8 its latched flag (R177). -/
def MonitorUnit.summary (mu : MonitorUnit) : Nat :=
  (MonitorId.all.map fun i => flagBit i.idx.val mu.recs[i.idx].active + flagBit (i.idx.val + 8) mu.recs[i.idx].latched).sum

end Sys2Proof.Machine
end

