-- ==== Sys2Proof/Machine/Limits.lean ====
section
/-! DEFINITION. The capacities, limits and times the manual fixes, each with its rule. Times on the line and the field
port are in ticks of 2 µs (log 2): the crystal's common measure of the 8 µs half-bit and the 250 µs reference cycle. -/

namespace Sys2Proof.Machine.Limits

/-- 16-bit counters saturate at 65,535 (R13, R190). -/
abbrev sat16 : Nat := 65535
/-- "at most 8 accounting notices" (R10). -/
abbrev transmitQueue : Nat := 8
/-- "at most 16 items" (R185). -/
abbrev outbound : Nat := 16
/-- "An event offered while 15 or 16 places are taken is dropped" (R186). -/
abbrev eventPlaces : Nat := 15
/-- The consecutive collision count stays at 255 (R7). -/
abbrev collisionCount : Nat := 255
/-- LINE-CONGESTION holds at 8 or more (R9). -/
abbrev congestion : Nat := 8
/-- The open consignment table (R61). -/
abbrev openTable : Nat := 64
/-- A vehicle tare table (R68). -/
abbrev tareTable : Nat := 128
/-- The awaiting table (R72). -/
abbrev awaiting : Nat := 32
/-- The lot list (R95). -/
abbrev lots : Nat := 32
/-- The pending-net table (R113). -/
abbrev pendingNets : Nat := 16
/-- Shares of one breakdown (R106). -/
abbrev shares : Nat := 8
/-- The history ring (R127). -/
abbrev ring : Nat := 8
/-- The assembly table (R146). -/
abbrev assembly : Nat := 48
/-- The record store (R159). -/
abbrev store : Nat := 256
/-- The largest consignment or synthetic sequence (R59, R76). -/
abbrev sequence : Nat := 4095
/-- An age counter saturates at 65,535 (R84), and so does the reverse debt (R86). -/
abbrev age : Nat := 65535
/-- The reverse debt (R86). -/
abbrev debt : Nat := 65535
/-- "4,095, which means stopped" (R89). -/
abbrev stopped : Nat := 4095
/-- Flow pulses of one period (R120). -/
abbrev pulses : Nat := 65535
/-- "A lot's credited figure saturates at 16,777,215 kg" (R134). -/
abbrev credited : Nat := 16777215
/-- The largest single weighing, in kg (00_scope.md; R26). -/
abbrev weighing : Nat := 120000
/-- The longest payload of a frame (R12). -/
abbrev framePayload : Nat := 48
/-- The longest payload of a field record (R181). -/
abbrev recordPayload : Nat := 60
/-- R_ref and r stay within 1500 per mille (R139, R140). -/
abbrev rref : Nat := 1500
/-- Purity is limited to 1,000 (R157). -/
abbrev purity : Nat := 1000
/-- The LAB sums saturate at 2^32 - 1 kg (R166). -/
abbrev sum32 : Nat := 4294967295

/-- 320 µs (R2). -/
abbrev quietTicks : Nat := 160
/-- A half-bit of 8 µs (R1). -/
abbrev halfBitTicks : Nat := 4
/-- A mid-bit transition is taken from three quarters of a bit time on after the one before it: 12 µs (log 33). -/
abbrev midBitEarly : Nat := 6
/-- No mid-bit transition within five quarters of a bit time after the one before it, 20 µs, is a missing one (log 33). -/
abbrev midBitLate : Nat := 10
/-- A slot of 768 µs (R8). -/
abbrev slotTicks : Nat := 384
/-- The collision mark of 32 µs (R7). -/
abbrev markTicks : Nat := 16
/-- 50 ms, the gap limit of a field record (R182). -/
abbrev gapTicks : Nat := 25000
/-- 20 ms, for which a new level of TIPPING or RUN holds steady (R78, R90). -/
abbrev contactTicks : Nat := 10000
/-- 0.5 ms, for which FLOW stays high (R120). -/
abbrev flowTicks : Nat := 250
/-- 1 ms (00_scope.md, Numbers and units). -/
abbrev ticksPerMs : Nat := 500
/-- One cycle of the 4,000 Hz reference (00_scope.md, Numbers and units). -/
abbrev ticksPerCycle : Nat := 125

/-- POWER-UP lasts 8 ms (R35). -/
abbrev powerUpMs : Nat := 8
/-- The regular beacon interval (R17). -/
abbrev beaconMs : Nat := 2000
/-- The started beacon's delay for each station number (R17). -/
abbrev startedMs : Nat := 100
/-- The silence period before a configuration, in seconds (R16). -/
abbrev defaultSilence : Nat := 30
/-- The 10 s measure (R18). -/
abbrev runMs : Nat := 10000
/-- 24 h (R73). -/
abbrev awaitingMs : Nat := 86400000
/-- 10 minutes of pause (R124). -/
abbrev pauseMs : Nat := 600000
/-- The summary wait of 60 s (R165). -/
abbrev summaryMs : Nat := 60000
/-- One hour. -/
abbrev hourMs : Nat := 3600000
/-- One minute. -/
abbrev minuteMs : Nat := 60000

end Sys2Proof.Machine.Limits
end

