-- ==== Sys2Proof/Machine/Layout.lean ====
section
/-! DEFINITION. Byte layouts as the part sends them (02_notices.md section 2.6, R33): multi-byte fields, keys, notice
payloads, frames with their CRC (R4, R5) and Manchester half-bits (R1), and outbound field records (R181, R34). -/

namespace Sys2Proof.Machine

/-! ### Fields -/

/-- `v` in `n` bytes, most significant byte first (R33). -/
def be : Nat → Nat → List Byte
  | 0, _ => []
  | n + 1, v => BitVec.ofNat 8 (v / 256 ^ n) :: be n v

/-- The value of bytes taken most significant first (R33). -/
def fromBe (bs : List Byte) : Nat := bs.foldl (fun acc b => acc * 256 + b.toNat) 0

/-- The `n`-byte field at offset `off` (R33). -/
def field (p : List Byte) (off n : Nat) : Nat := fromBe ((p.drop off).take n)

/-- A two's complement field of `n` bytes (R33). -/
def signedField (p : List Byte) (off n : Nat) : Int :=
  if field p off n < 2 ^ (8 * n - 1) then (field p off n : Int) else (field p off n : Int) - 2 ^ (8 * n)

/-- "An unsigned field of a closed record whose value exceeds the largest value its width holds is sent as that largest
value" (R33). -/
def beSat (n v : Nat) : List Byte := be n (min v (256 ^ n - 1))

/-- The 4-byte key field (Table 2-1). -/
def keyBytes (k : Key) : List Byte :=
  be 2 k.day ++ [BitVec.ofNat 8 (k.seq / 256 * 16 + k.origin.val), BitVec.ofNat 8 k.seq]

/-- The key of the 4-byte field at `off`; SYNTHETIC stands elsewhere in the layout (R21, Table 2-1). -/
def readKey (p : List Byte) (off : Nat) (synthetic : Bool) : Key where
  day := field p off 2
  origin := Fin.ofNat 16 (field p (off + 2) 1 % 16)
  seq := field p (off + 2) 1 / 16 * 256 + field p (off + 3) 1
  synthetic := synthetic

/-! ### Codes -/

/-- The role codes (Table 1 of the scope). -/
def roleCode : Role → Nat
  | .entry => 1
  | .exit => 2
  | .tip => 3
  | .mill => 4
  | .lab => 5

/-- The role of a code: "source role code is not 1 to 5" has none (R13). -/
def roleOfCode : Nat → Option Role
  | 1 => some .entry
  | 2 => some .exit
  | 3 => some .tip
  | 4 => some .mill
  | 5 => some .lab
  | _ => none

/-- The kind codes of the accounting notices (R24). -/
def NoticeKind.code : NoticeKind → Nat
  | .gross => 2
  | .net => 3
  | .tip => 4
  | .lotCrushed => 5
  | .dayEnd => 6
  | .daySummary => 7

/-- The kind of a notice (R24). -/
def Notice.kind : Notice → NoticeKind
  | .gross _ => .gross
  | .net _ => .net
  | .tip _ => .tip
  | .lotCrushed _ => .lotCrushed
  | .dayEnd _ => .dayEnd
  | .daySummary _ => .daySummary

/-- The basis codes (R27, Table 2-2). -/
def Basis.code : Basis → Nat
  | .weighed => 1
  | .estimated => 2
  | .defaulted => 3

/-- The LOT-CRUSHED causes (Table 2-2). -/
def LotCause.code : LotCause → Nat
  | .crushed => 1
  | .notTracked => 2

/-! ### Notice payloads (Table 2-2) -/

/-- The 44 bytes of the twelve counters (Table 2-2, DAY-SUMMARY from offset 2). -/
def MillCounters.bytes (c : MillCounters) : List Byte :=
  be 4 c.entered.toNat ++ be 4 c.carriedIn.toNat ++ be 4 c.corrections.toNat ++ be 4 c.crushed.toNat ++
  be 4 c.onCarrier.toNat ++ be 4 c.writtenOff.toNat ++ be 4 c.measured.toNat ++ be 4 c.creditedMeasured.toNat ++
  be 4 c.creditedEstimated.toNat ++ be 4 c.unallocated.toNat ++ be 2 c.periods ++ be 2 c.forced

/-- The payload of an accounting notice (Table 2-2). -/
def Notice.payload : Notice → List Byte
  | .gross n => keyBytes n.key ++ n.plate ++ be 2 n.grower ++ be 3 n.gross
  | .net n => keyBytes n.key ++ n.plate ++ be 2 n.grower ++ be 3 n.gross ++ be 3 n.tare ++ be 3 n.net ++
      be 1 n.basis.code ++ be 1 (flagBit 0 n.tareExceeds)
  | .tip n => keyBytes n.lot.key ++ be 1 n.lot.k ++ be 1 n.lot.m ++ be 3 n.mass ++ be 2 n.ageStart ++
      be 2 n.ageEnd ++ be 2 n.distance ++ be 2 n.flags.toNat ++ be 1 n.attempt
  | .lotCrushed n => keyBytes n.lot.key ++ be 1 n.lot.k ++ be 1 n.lot.m ++ be 3 n.crushed ++
      be 3 n.creditedMeasured ++ be 3 n.creditedEstimated ++ be 2 n.flags.toNat ++ be 1 n.cause.code ++
      be 2 n.shareCount
  | .dayEnd n => be 2 n.closing ++ be 2 n.newDay
  | .daySummary n => be 2 n.day ++ n.counters.bytes

/-- The payload of a beacon (Table 2-2, R32). -/
def Beacon.payload (b : Beacon) : List Byte :=
  be 1 (if b.config then 1 else 2) ++ be 1 (flagBit 0 b.started + flagBit 1 b.debtSaturated) ++ be 2 b.day ++
  be 2 b.summary.toNat ++ be 1 b.queueDepth ++ be 2 b.speed

/-! ### Frames (R4, R5, R1) -/

/-- One bit through the CRC register, x^16 + x^12 + x^5 + 1 (R5). -/
def crcBit (crc : BitVec 16) (bit : Bool) : BitVec 16 :=
  if crc.msb ^^ bit then (crc <<< 1) ^^^ 0x1021#16 else crc <<< 1

/-- The bits of a byte, most significant first (R1, R5). -/
def byteBits (b : Byte) : List Bool := [7, 6, 5, 4, 3, 2, 1, 0].map fun i => b.getLsbD i

/-- The CRC of header and payload, the register preset to FFFFh (R5). -/
def crc16 (bytes : List Byte) : BitVec 16 := (bytes.flatMap byteBits).foldl crcBit 0xFFFF#16

/-- Header byte 0: station number, role code, fresh flag (Table 2-1). -/
def sourceByte (station : StationNo) (role : Nat) (fresh : Bool) : Byte :=
  BitVec.ofNat 8 (station.val * 16 + role * 2 + flagBit 0 fresh)

/-- The header and payload of a frame: the part the CRC covers (R4, R5). -/
def frameBody (station : StationNo) (role : Nat) (fresh : Bool) (kind : Nat) (seq : SeqNo) (payload : List Byte) :
    List Byte :=
  [sourceByte station role fresh, BitVec.ofNat 8 kind, seq, BitVec.ofNat 8 payload.length] ++ payload

/-- A whole frame: preamble, sync byte B4h, header, payload, CRC high byte first (R4, R5). -/
def frameBytes (body : List Byte) : List Byte := [0xAA, 0xAA, 0xB4] ++ body ++ be 2 (crc16 body).toNat

/-- The half-bits of bytes in biphase-level form: a 1 is high then low, a 0 low then high (R1). -/
def halfBits (bytes : List Byte) : List Bool := (bytes.flatMap byteBits).flatMap fun b => [b, !b]

/-- What a receiver makes of the bytes after the sync byte, when the line then goes quiet (R12, R5): a status, or the
four header bytes and the payload of a GOOD frame. -/
def takeFrame (bytes : List Byte) : Except FrameError (List Byte × List Byte) :=
  if bytes.length < 4 then .error .short
  else if Limits.framePayload < field bytes 3 1 then .error .long
  else if bytes.length < field bytes 3 1 + 6 then .error .short
  else
    let body := bytes.take (field bytes 3 1 + 4)
    if field bytes (field bytes 3 1 + 4) 2 = (crc16 body).toNat then .ok (body.take 4, body.drop 4)
    else .error .crcError

/-! ### Outbound field records (Tables 2-4, 2-7, 2-8, 2-10) -/

/-- The reply codes (Table 2-8). -/
def ReplyCode.code : ReplyCode → Nat
  | .accepted => 0
  | .format => 1
  | .wrongRole => 2
  | .wrongState => 3
  | .outOfRange => 4
  | .busy => 5
  | .full => 6
  | .unknown => 7
  | .late => 8
  | .dayUnknown => 9
  | .empty => 10

/-- A key and its key-flags byte (Table 2-4 text: bit 0 is SYNTHETIC). -/
def keyAndFlags (k : Key) : List Byte := keyBytes k ++ be 1 (flagBit 0 k.synthetic)

/-- Bytes 1 to 5 of a SENT (Table 2-7): a DAY-END carries its closing day in bytes 1 and 2. -/
def NoticeName.sentBytes : NoticeName → List Byte
  | .key k => keyAndFlags k
  | .closing d => be 2 d ++ be 3 0
  | .nothing => be 5 0

/-- Bytes 1 to 5 of a NOTICE-LOST (Table 2-7): zeros for a kind without a key. -/
def NoticeName.lostBytes : NoticeName → List Byte
  | .key k => keyAndFlags k
  | .closing _ => be 5 0
  | .nothing => be 5 0

/-- The closing cause codes (Table 2-10). -/
def CloseCause.code : CloseCause → Nat
  | .complete => 1
  | .lapsed => 2
  | .notCrushed => 3

/-- The presence byte (R34). -/
def ConsRecord.presence (r : ConsRecord) : Nat :=
  flagBit 0 r.gross.isSome + flagBit 1 r.net.isSome + flagBit 2 r.analysis.isSome

/-- A CONSIGNMENT-RECORD payload (Table 2-10, R34): absent fields are sent as 0 (R33). -/
def ConsRecord.payload (r : ConsRecord) : List Byte :=
  keyBytes r.key ++ be 1 r.cause.code ++ be 1 r.presence ++ be 2 r.flags.toNat ++ be 2 r.lotFlags.toNat ++
  (match r.gross with
    | some g => g.plate ++ be 2 g.grower ++ be 3 g.gross
    | none => be 13 0) ++
  (match r.net with
    | some n => be 3 n.tare ++ be 3 n.net ++ be 1 n.basis.code
    | none => be 7 0) ++
  beSat 3 r.massBasis ++ be 1 (r.parts * 16 + r.m) ++ beSat 3 r.crushed ++ beSat 3 r.creditedMeasured ++
  beSat 3 r.creditedEstimated ++ beSat 3 r.juice ++
  (match r.analysis with
    | some a => beSat 2 a.brix ++ beSat 2 a.pol ++ beSat 2 a.purity ++ beSat 3 a.sucrose
    | none => be 9 0) ++
  beSat 2 r.juicePerTonne ++
  (match r.analysis with
    | some a => beSat 2 a.sucrosePerTonne
    | none => be 2 0)

/-- A DAY-RECORD payload: 60 bytes, or 16 when it is marked MILL-ABSENT (R34, Table 2-10). -/
def DayRecord.payload (r : DayRecord) : List Byte :=
  be 2 r.day ++ beSat 2 r.totals.records ++ beSat 4 r.totals.netSum ++ beSat 4 r.totals.juiceSum ++
  beSat 4 r.totals.sucroseSum ++
  (match r.mill with
    | some c => c.bytes
    | none => [])

/-- The outbound kind codes (Table 2-4). -/
def OutItem.kindCode : OutItem → Nat
  | .reply .. => 0x80
  | .status .. => 0x81
  | .consignmentRecord .. => 0x82
  | .dayRecord .. => 0x83
  | .captured .. => 0x90
  | .sent .. => 0x91
  | .cancelled .. => 0x92
  | .unmatchedTare .. => 0x93
  | .tipped .. => 0x94
  | .notTracked .. => 0x95
  | .monitor .. => 0x96
  | .noticeLost .. => 0x97
  | .dayChanged .. => 0x98

/-- The payload of an outbound record (Table 2-7, Table 2-10). -/
def OutItem.payload : OutItem → List Byte
  | .reply kind code detail => [kind] ++ be 1 code.code ++ be 1 detail
  | .status payload => payload
  | .consignmentRecord r => r.payload
  | .dayRecord r => r.payload
  | .captured mass => be 3 mass
  | .sent kind name => be 1 kind.code ++ name.sentBytes
  | .cancelled plate => plate
  | .unmatchedTare plate tare => plate ++ be 3 tare
  | .tipped lot => keyAndFlags lot.key ++ be 1 lot.k ++ be 1 lot.m
  | .notTracked lot mass => keyAndFlags lot.key ++ be 1 lot.k ++ be 1 lot.m ++ be 3 mass
  | .monitor id active => be 1 id.idx.val ++ be 1 (flagBit 0 active)
  | .noticeLost kind name => be 1 kind.code ++ name.lostBytes
  | .dayChanged previous newDay => be 2 previous ++ be 2 newDay

/-- The checksum that makes the sum of kind, length, payload and checksum 0 modulo 256 (R181). -/
def checksum (bytes : List Byte) : Byte := 0 - bytes.foldl (· + ·) 0

/-- A field record on the wire: A5h, kind, length, payload, checksum (R181). -/
def wireRecord (kind : Nat) (payload : List Byte) : List Byte :=
  let inner := [BitVec.ofNat 8 kind, BitVec.ofNat 8 payload.length] ++ payload
  [0xA5] ++ inner ++ [checksum inner]

/-- An outbound item on the wire (R181). -/
def OutItem.wire (it : OutItem) : List Byte := wireRecord it.kindCode it.payload

end Sys2Proof.Machine
end

