-- ==== Sys2Proof/Machine/Operands.lean ====
section
/-! DEFINITION. What a payload says: the length and range checks of received notices (R25 to R32), the lengths and roles
of inbound field records (Tables 2-5, 2-6, 10-1), and the fields of CONFIGURE and of each record. -/

namespace Sys2Proof.Machine

/-! ### Ranges -/

/-- "Each character is A to Z, 0 to 9, or space" (00_scope.md; R33). -/
def plateChar (b : Byte) : Bool :=
  (0x41 ≤ b.toNat && b.toNat ≤ 0x5A) || (0x30 ≤ b.toNat && b.toNat ≤ 0x39) || b.toNat == 0x20

/-- A plate: eight such characters. -/
def plateOk (p : Plate) : Bool := p.length == 8 && p.all plateChar

/-- A key in range: sequence 1 to 4095, day 1 to 65535, or 0 only with SYNTHETIC (R21). -/
def keyOk (k : Key) : Bool :=
  1 ≤ k.seq && k.seq ≤ Limits.sequence && k.day ≤ 65535 && (k.synthetic || 1 ≤ k.day)

/-- A lot key in range: 1 ≤ k ≤ m ≤ 3 (R22). -/
def LotKey.ok (l : LotKey) : Bool := keyOk l.key && 1 ≤ l.k && l.k ≤ l.m && l.m ≤ 3

/-- "the closing day plus 1, with 65535 followed by 1" (R30). -/
def nextDay (d : Nat) : Nat := if d = 65535 then 1 else d + 1

/-- The consignment and synthetic sequences: "4095 followed by 1" (R59, R76). -/
def nextSeq (n : Nat) : Nat := if n = Limits.sequence then 1 else n + 1

/-! ### Notices: none when the notice is malformed (R25, steps 2 and 4) -/

/-- The fields of a beacon (Table 2-2, R32). -/
def readBeacon (p : List Byte) : Option Beacon :=
  let state := field p 0 1
  if p.length = 9 ∧ (state = 1 ∨ state = 2) ∧ field p 6 1 ≤ 8 ∧ field p 7 2 ≤ Limits.stopped then
    some {
      config := state == 1
      started := bitOf 0 (field p 1 1)
      debtSaturated := bitOf 1 (field p 1 1)
      day := field p 2 2
      summary := BitVec.ofNat 16 (field p 4 2)
      queueDepth := field p 6 1
      speed := field p 7 2 }
  else none

/-- The fields of a GROSS, checked against the frame's source station (R26). -/
def readGross (source : StationNo) (p : List Byte) : Option GrossNotice :=
  let n : GrossNotice :=
    { key := readKey p 0 false, plate := (p.drop 4).take 8, grower := field p 12 2, gross := field p 14 3 }
  if p.length = 17 ∧ keyOk n.key ∧ n.key.origin = source ∧ plateOk n.plate ∧ n.grower ≠ 0 ∧
      n.gross ≤ Limits.weighing then some n else none

/-- The basis of a code (R27). -/
def basisOfCode : Nat → Option Basis
  | 1 => some .weighed
  | 2 => some .estimated
  | 3 => some .defaulted
  | _ => none

/-- "gross minus tare, or 0 when the tare exceeds the gross" (R27): natural subtraction stops at 0. -/
def netOf (gross tare : Nat) : Nat := gross - tare

/-- The fields of a NET; net, tare, gross and TARE-EXCEEDS must agree (R27). -/
def readNet (p : List Byte) : Option NetNotice :=
  match basisOfCode (field p 23 1) with
  | none => none
  | some basis =>
    let n : NetNotice :=
      { key := readKey p 0 false, plate := (p.drop 4).take 8, grower := field p 12 2, gross := field p 14 3
        tare := field p 17 3, net := field p 20 3, basis := basis, tareExceeds := bitOf 0 (field p 24 1) }
    if p.length = 25 ∧ keyOk n.key ∧ plateOk n.plate ∧ n.grower ≠ 0 ∧ n.gross ≤ Limits.weighing ∧
        n.tare ≤ Limits.weighing ∧ n.net = netOf n.gross n.tare ∧ n.tareExceeds = decide (n.gross < n.tare) then
      some n
    else none

/-- The fields of a TIP (R28). -/
def readTip (p : List Byte) : Option TipNotice :=
  let flags := LotFlags.ofNat (field p 15 2)
  let n : TipNotice :=
    { lot := { key := readKey p 0 flags.synthetic, k := field p 4 1, m := field p 5 1 }
      mass := field p 6 3, ageStart := field p 9 2, ageEnd := field p 11 2, distance := field p 13 2
      flags := flags, attempt := field p 17 1 }
  if p.length = 18 ∧ n.lot.ok ∧ n.distance ≠ 0 ∧ n.attempt ≠ 0 ∧ n.ageEnd ≤ n.ageStart then some n else none

/-- The cause of a code (R29). -/
def lotCauseOfCode : Nat → Option LotCause
  | 1 => some .crushed
  | 2 => some .notTracked
  | _ => none

/-- The fields of a LOT-CRUSHED; a NOT-TRACKED one carries zero figures and its flag (R29). -/
def readLotCrushed (p : List Byte) : Option LotCrushedNotice :=
  match lotCauseOfCode (field p 17 1) with
  | none => none
  | some cause =>
    let flags := LotFlags.ofNat (field p 15 2)
    let n : LotCrushedNotice :=
      { lot := { key := readKey p 0 flags.synthetic, k := field p 4 1, m := field p 5 1 }
        crushed := field p 6 3, creditedMeasured := field p 9 3, creditedEstimated := field p 12 3
        flags := flags, cause := cause, shareCount := field p 18 2 }
    if p.length = 20 ∧ n.lot.ok ∧
        (cause = .notTracked → n.crushed = 0 ∧ n.creditedMeasured = 0 ∧ n.creditedEstimated = 0 ∧
          n.shareCount = 0 ∧ n.flags.notTracked = true) then some n
    else none

/-- The fields of a DAY-END (R30). -/
def readDayEnd (p : List Byte) : Option DayEndNotice :=
  let n : DayEndNotice := { closing := field p 0 2, newDay := field p 2 2 }
  if p.length = 4 ∧ n.closing ≠ 0 ∧ n.newDay = nextDay n.closing then some n else none

/-- The twelve counters at offset 2 of a DAY-SUMMARY (Table 2-2). -/
def readMillCounters (p : List Byte) : MillCounters where
  entered := BitVec.ofNat 32 (field p 2 4)
  carriedIn := BitVec.ofNat 32 (field p 6 4)
  corrections := BitVec.ofNat 32 (field p 10 4)
  crushed := BitVec.ofNat 32 (field p 14 4)
  onCarrier := BitVec.ofNat 32 (field p 18 4)
  writtenOff := BitVec.ofNat 32 (field p 22 4)
  measured := BitVec.ofNat 32 (field p 26 4)
  creditedMeasured := BitVec.ofNat 32 (field p 30 4)
  creditedEstimated := BitVec.ofNat 32 (field p 34 4)
  unallocated := BitVec.ofNat 32 (field p 38 4)
  periods := field p 42 2
  forced := field p 44 2

/-- The fields of a DAY-SUMMARY (R31): "malformed only when the day is 0". -/
def readDaySummary (p : List Byte) : Option DaySummary :=
  let n : DaySummary := { day := field p 0 2, counters := readMillCounters p }
  if p.length = 46 ∧ n.day ≠ 0 then some n else none

/-- A received notice whose checks have passed. -/
inductive Received where
  | beacon (b : Beacon)
  | notice (n : Notice)
  deriving DecidableEq, Repr

/-- The kind codes that are known, 01h to 07h (R25 step 1). -/
def knownKind (kind : Nat) : Bool := 1 ≤ kind && kind ≤ 7

/-- The sending role of a kind; none where any role may send it (R24). -/
def sendingRole : Nat → Option Role
  | 2 => some .entry
  | 3 => some .exit
  | 4 => some .tip
  | 5 => some .mill
  | 6 => some .lab
  | 7 => some .mill
  | _ => none

/-- Steps 2 to 4 of R25: length, sender and ranges. None when the notice is malformed. -/
def readNotice (kind : Nat) (source : StationNo) (sender : Role) (p : List Byte) : Option Received :=
  if (sendingRole kind).any (· ≠ sender) then none
  else
    match kind with
    | 1 => (readBeacon p).map .beacon
    | 2 => (readGross source p).map fun n => .notice (.gross n)
    | 3 => (readNet p).map fun n => .notice (.net n)
    | 4 => (readTip p).map fun n => .notice (.tip n)
    | 5 => (readLotCrushed p).map fun n => .notice (.lotCrushed n)
    | 6 => (readDayEnd p).map fun n => .notice (.dayEnd n)
    | 7 => (readDaySummary p).map fun n => .notice (.daySummary n)
    | _ => none

/-! ### Inbound field records -/

/-- The inbound record kinds (Table 2-4). -/
inductive RecordKind where
  | configure | statusRequest | clear | clearFresh | restart | vehicle | weight | withdraw | assign | disarm
  | analysis | dayEnd | read | release
  deriving DecidableEq, Repr

/-- The inbound kind codes (Table 2-4). -/
def RecordKind.code : RecordKind → Nat
  | .configure => 0x10
  | .statusRequest => 0x11
  | .clear => 0x12
  | .clearFresh => 0x13
  | .restart => 0x14
  | .vehicle => 0x20
  | .weight => 0x21
  | .withdraw => 0x22
  | .assign => 0x30
  | .disarm => 0x31
  | .analysis => 0x40
  | .dayEnd => 0x41
  | .read => 0x42
  | .release => 0x43

/-- The kind byte of a record, as its reply gives it back (R183). -/
def RecordKind.byte (k : RecordKind) : Byte := BitVec.ofNat 8 k.code

/-- The codes of the inbound column of Table 2-4. -/
def inboundCodes : List Nat :=
  [0x10, 0x11, 0x12, 0x13, 0x14, 0x20, 0x21, 0x22, 0x30, 0x31, 0x40, 0x41, 0x42, 0x43]

/-- Which roles serve a record (Table 10-1). The records served by all are served by a station without a role too. -/
def servedBy (k : RecordKind) (role : Option Role) : Bool :=
  match k with
  | .configure | .statusRequest | .clear | .clearFresh | .restart => true
  | .vehicle | .weight => role == some .entry || role == some .exit
  | .withdraw => role == some .entry || role == some .exit || role == some .tip
  | .assign | .disarm => role == some .tip
  | .analysis | .dayEnd | .read | .release => role == some .lab

/-- The lengths Tables 2-5 and 2-6 give for a kind at the local role (R184 step 5). -/
def lengthOk (k : RecordKind) (role : Option Role) (n : Nat) : Bool :=
  match k with
  | .configure =>
    match role with
    | some .entry => n == 13
    | some .exit => n == 16
    | some .tip => n == 9
    | some .mill => n == 20
    | some .lab => n == 7
    | none => false
  | .statusRequest => n == 0 || n == 1
  | .clear | .clearFresh | .restart | .disarm | .dayEnd | .read => n == 0
  | .vehicle => n == (if role = some .entry then 10 else 8)
  | .weight => n == 4
  | .withdraw => n == 1
  | .assign => n == 10 || n == 6
  | .analysis => n == 9
  | .release => n == 2

/-! ### CONFIGURE (Table 2-6, R38) -/

/-- The mode of a code (Table 2-6). -/
def modeOfCode : Nat → Mode
  | 0 => .latched
  | 1 => .recover
  | 2 => .warn
  | _ => .off

/-- "A qualification field holds 1, 2, 4 or 8" (Table 2-6). -/
def qualOk (n : Nat) : Bool := n == 1 || n == 2 || n == 4 || n == 8

/-- A value within two bounds, both included. -/
def within (lo hi n : Nat) : Bool := lo ≤ n && n ≤ hi

/-- A field number and whether the field passes; "the fields are checked in the order in which they are numbered" (R38). -/
abbrev FieldCheck := Nat × Bool

/-- The number of the first field that fails (R38). -/
def firstFailure (cs : List FieldCheck) : Option Nat := (cs.find? fun c => !c.2).map (·.1)

/-- Fields 2 to 8 at ENTRY and EXIT (Table 2-6). -/
def weighSettings (p : List Byte) : WeighSettings where
  capacity := field p 2 3
  band := field p 5 1
  stableCount := field p 6 1
  zeroBand := field p 7 2
  minLoad := field p 9 2
  scaleOverMode := modeOfCode (field p 11 1)
  scaleOverQual := field p 12 1

/-- The ranges of fields 2 to 8 at ENTRY and EXIT (R38). -/
def weighChecks (p : List Byte) : List FieldCheck :=
  [(2, within 10000 120000 (field p 2 3)), (3, within 1 200 (field p 5 1)), (4, within 2 16 (field p 6 1)),
   (5, within 0 500 (field p 7 2)), (6, within 100 20000 (field p 9 2) && field p 9 2 ≤ field p 2 3),
   (7, within 0 3 (field p 11 1)), (8, qualOk (field p 12 1))]

/-- Fields 9 and 10 at EXIT (Table 2-6). -/
def exitSettings (p : List Byte) : ExitSettings where
  defaultTare := field p 13 2
  openAgeHours := field p 15 1

/-- Fields 2 to 5 at TIP (Table 2-6). -/
def tipSettings (p : List Byte) : TipSettings where
  distance := field p 2 2
  defaultTare := field p 4 2
  defaultLotMass := field p 6 2
  minTipHalves := field p 8 1

/-- Fields 2 to 16 at MILL (Table 2-6). -/
def millSettings (p : List Byte) : MillSettings where
  gramsPerPulse := field p 2 2
  periodSeconds := field p 4 1
  lag := field p 5 1
  policy := if field p 6 1 = 0 then .creditZero else .estimate
  silentMode := modeOfCode (field p 7 1)
  silentQual := field p 8 1
  initialRref := field p 9 2
  step := field p 11 1
  window := field p 12 1
  asymmetric := field p 13 1 == 1
  minCane := field p 14 2
  speedRange := field p 16 1
  stallMode := modeOfCode (field p 17 1)
  stallQual := field p 18 1
  allowanceHalves := field p 19 1

/-- The ranges of fields 2 to 16 at MILL (R38). -/
def millChecks (p : List Byte) : List FieldCheck :=
  [(2, within 1 65535 (field p 2 2)),
   (3, field p 4 1 == 15 || field p 4 1 == 30 || field p 4 1 == 60 || field p 4 1 == 120),
   (4, within 0 7 (field p 5 1)), (5, within 0 1 (field p 6 1)), (6, within 0 3 (field p 7 1)),
   (7, qualOk (field p 8 1)), (8, within 0 1500 (field p 9 2)), (9, within 1 64 (field p 11 1)),
   (10, within 0 200 (field p 12 1)), (11, within 0 1 (field p 13 1)), (12, within 0 5000 (field p 14 2)),
   (13, qualOk (field p 16 1) || field p 16 1 == 16), (14, within 0 3 (field p 17 1)),
   (15, qualOk (field p 18 1)), (16, qualOk (field p 19 1))]

/-- Fields 2 to 4 at LAB (Table 2-6). -/
def labSettings (p : List Byte) : LabSettings where
  firstDay := field p 2 2
  completionMinutes := field p 4 2
  notCrushedHours := field p 6 1

/-- The settings of a payload of the role's length, before the range checks (Table 2-6). -/
def readSettings (role : Role) (p : List Byte) : Settings where
  silenceSeconds := field p 1 1
  forRole :=
    match role with
    | .entry => .entry (weighSettings p)
    | .exit => .exit (weighSettings p) (exitSettings p)
    | .tip => .tip (tipSettings p)
    | .mill => .mill (millSettings p)
    | .lab => .lab (labSettings p)

/-- Every field check of a CONFIGURE at a role, in the order of the field numbers (R38). -/
def settingsChecks (role : Role) (p : List Byte) : List FieldCheck :=
  [(0, field p 0 1 == roleCode role), (1, field p 1 1 == 5 || field p 1 1 == 10 || field p 1 1 == 30)] ++
  match role with
  | .entry => weighChecks p
  | .exit => weighChecks p ++ [(9, within 0 40000 (field p 13 2)), (10, within 1 48 (field p 15 1))]
  | .tip =>
    [(2, within 1 65535 (field p 2 2)), (3, within 0 40000 (field p 4 2)), (4, within 0 60000 (field p 6 2)),
     (5, within 1 20 (field p 8 1))]
  | .mill => millChecks p
  | .lab =>
    [(2, within 1 65535 (field p 2 2)), (3, within 30 720 (field p 4 2)), (4, within 2 48 (field p 6 1))]

end Sys2Proof.Machine
end

