-- ==== Sys2Proof/Machine/Ops.lean ====
section
/-! DEFINITION. The operations the commands share: the outbound queue (R185, R186), the monitors (R169 to R172), the
transmit queue and the frame in hand (R3, R9, R10), the peer table (R15, R18) and the crop day (R45). -/

namespace Sys2Proof.Machine

/-! ### One block replaced -/

/-- Replaces the station as a whole. -/
def State.setPart (s : State) (x : Part) : State := { s with part := x }
/-- Replaces the line interface. -/
def State.setLi (s : State) (x : LineInterface) : State := { s with li := x }
/-- Replaces the peer table. -/
def State.setPt (s : State) (x : PeerTable) : State := { s with pt := x }
/-- Replaces the weigh unit. -/
def State.setWu (s : State) (x : WeighUnit) : State := { s with wu := x }
/-- Replaces the tip unit. -/
def State.setTu (s : State) (x : TipUnit) : State := { s with tu := x }
/-- Replaces the carrier counter. -/
def State.setCc (s : State) (x : CarrierCounter) : State := { s with cc := x }
/-- Replaces the crush line. -/
def State.setCl (s : State) (x : CrushLine) : State := { s with cl := x }
/-- Replaces the juice attributor. -/
def State.setJa (s : State) (x : JuiceAttributor) : State := { s with ja := x }
/-- Replaces the record assembler. -/
def State.setRa (s : State) (x : RecordAssembler) : State := { s with ra := x }
/-- Replaces the monitor unit. -/
def State.setMu (s : State) (x : MonitorUnit) : State := { s with mu := x }
/-- Replaces the field port. -/
def State.setFp (s : State) (x : FieldPort) : State := { s with fp := x }
/-- Replaces the prescalers. -/
def State.setClock (s : State) (x : Clock) : State := { s with clock := x }
/-- `s` with this on the wires. -/
def State.setWires (s : State) (x : Wires) : State := { s with wires := x }

/-! ### What the station is -/

/-- A function over every entry of a table of fixed size (written over the list, which the kernel evaluates). -/
def mapTable {α : Type} {n : Nat} (f : α → α) (v : Vector α n) : Vector α n := ⟨⟨v.toList.map f⟩, by simp⟩

/-- The station runs in the role `r` (R39, R40: role units work in RUN only). -/
def runsAs (r : Role) (s : State) : Bool := s.part.stationState == .run && s.part.role == some r

/-- Replaces the line counters (R13, R25). -/
def setCounters (c : LineCounters) (s : State) : State := s.setLi { s.li with counters := c }

/-- "increases the malformed-notice counter" (R25). -/
def countMalformed (s : State) : State :=
  setCounters { s.li.counters with malformed := bump Limits.sat16 s.li.counters.malformed } s

/-- The weigh settings of the stored configuration. A station in RUN has one (R39); log 25 for a state without it. -/
def weighCfg (s : State) : WeighSettings :=
  match s.part.settings with
  | some { forRole := .entry w, .. } => w
  | some { forRole := .exit w _, .. } => w
  | _ => ⟨0, 0, 0, 0, 0, .off, 1⟩

/-- The EXIT settings (log 25). -/
def exitCfg (s : State) : ExitSettings :=
  match s.part.settings with
  | some { forRole := .exit _ x, .. } => x
  | _ => ⟨0, 0⟩

/-- The TIP settings (log 25). -/
def tipCfg (s : State) : TipSettings :=
  match s.part.settings with
  | some { forRole := .tip t, .. } => t
  | _ => ⟨0, 0, 0, 0⟩

/-- The MILL settings (log 25). -/
def millCfg (s : State) : MillSettings :=
  match s.part.settings with
  | some { forRole := .mill m, .. } => m
  | _ => ⟨0, 0, 0, .creditZero, .off, 1, 0, 0, 0, false, 0, 1, .off, 1, 0⟩

/-- The LAB settings (log 25). -/
def labCfg (s : State) : LabSettings :=
  match s.part.settings with
  | some { forRole := .lab l, .. } => l
  | _ => ⟨0, 0, 0⟩

/-- The silence period in ms: configured, or 30 s before a configuration (R16). -/
def silenceMs (s : State) : Nat :=
  match s.part.settings with
  | some c => c.silenceSeconds * 1000
  | none => Limits.defaultSilence * 1000

/-! ### The outbound queue (R185, R186) -/

/-- A reply or an answer takes a place (R185). "A reply is always placed" (R186). -/
def place (it : OutItem) (s : State) : State := s.setFp { s.fp with out := s.fp.out ++ [it] }

/-- An event is placed, or dropped and counted while 15 or 16 places are taken (R186). -/
def emit (ev : OutItem) (s : State) : State :=
  if Limits.eventPlaces ≤ s.fp.out.length then
    s.setFp { s.fp with eventsDropped := bump Limits.sat16 s.fp.eventsDropped }
  else place ev s

/-! ### Monitors (R167 to R172) -/

/-- The record of a monitor. -/
def mon (s : State) (i : MonitorId) : MonitorRec := s.mu.recs[i.idx]

/-- Replaces the record of a monitor. -/
def setMon (i : MonitorId) (r : MonitorRec) (s : State) : State := s.setMu { recs := s.mu.recs.set i.idx r }

/-- Active in LATCHED or RECOVER mode: the owning block's effect applies and ALERT is driven (R171, R175). -/
def MonitorRec.effective (r : MonitorRec) : Bool :=
  r.active && (r.mode == some .latched || r.mode == some .recover)

/-- "The period is paused while CARRIER-STALL is active in LATCHED or RECOVER mode" (R123). -/
def syncPause (i : MonitorId) (s : State) : State :=
  if i = .carrierStall then s.setJa { s.ja with isPaused := s.ja.isOpen && (mon s .carrierStall).effective } else s

/-- A monitor becomes active: step 1 of R170, and the effect of CARRIER-STALL (R123). -/
def setActive (i : MonitorId) (s : State) : State :=
  let r := mon s i
  syncPause i (setMon i { r with active := true, latched := r.mode == some .latched } s)

/-- A monitor ends: step 1 of R172, and the end of the effect of CARRIER-STALL (R123). -/
def setInactive (i : MonitorId) (s : State) : State :=
  syncPause i (setMon i { mon s i with active := false, latched := false } s)

/-- "A monitor that becomes active" (R170): with its MONITOR event, unless it is active already (R169). -/
def activate (i : MonitorId) (s : State) : State :=
  if (mon s i).active then s else emit (.monitor i true) (setActive i s)

/-- "When a monitor ends" (R172): with its MONITOR event, unless it is inactive (R178). -/
def finish (i : MonitorId) (s : State) : State :=
  if (mon s i).active then emit (.monitor i false) (setInactive i s) else s

/-- An owning block reports that a fixed monitor's condition has started (R169, R178). -/
def conditionStarts (i : MonitorId) (s : State) : State :=
  activate i (setMon i { mon s i with condition := true } s)

/-- An owning block reports that a fixed monitor's condition has ended (R172, R178). -/
def conditionEnds (i : MonitorId) (s : State) : State :=
  finish i (setMon i { mon s i with condition := false } s)

/-- The mode makes observations: not OFF, and not the missing mode of a monitor not yet configured (R167, R168). -/
def MonitorRec.observes (r : MonitorRec) : Bool := r.mode != none && r.mode != some .off

/-- The record after an observation of the condition: the count stops at the qualification (R169). -/
def MonitorRec.counted (r : MonitorRec) : MonitorRec :=
  { r with condition := true, count := min (r.count + 1) r.qual }

/-- An observation of the condition at a counted monitor (R169). -/
def observe (i : MonitorId) (s : State) : State :=
  if (mon s i).observes then
    let s' := setMon i (mon s i).counted s
    if (mon s' i).qual ≤ (mon s' i).count then activate i s' else s'
  else s

/-- A contrary observation at a counted monitor: condition clear, count 0 (R169). -/
def observeContrary (i : MonitorId) (s : State) : State :=
  if (mon s i).observes then setMon i { mon s i with condition := false, count := 0 } s else s

/-- The ending event of R172 for a counted monitor: it ends an active monitor in RECOVER or WARN mode. -/
def endingEvent (i : MonitorId) (s : State) : State :=
  if (mon s i).mode = some .recover ∨ (mon s i).mode = some .warn then finish i s else s

/-- The records after a move to MUTE: count, condition, active and latched clear, mode and qualification kept (R167). -/
def MonitorUnit.cleared (mu : MonitorUnit) : MonitorUnit where
  recs := mapTable (fun r => MonitorRec.idle r.mode r.qual) mu.recs

/-! ### The frame in hand and the transmit queue (R3, R9, R10) -/

/-- The frame leaves the transmitter: LINE-CONGESTION ends if it held, and the count starts again from 0 (R9). -/
def dropFrame (s : State) : State :=
  conditionEnds .lineCongestion
    (s.setLi { s.li with tx := .idle, inHand := none, frame := [], txTicks := 0, slotsLeft := 0, partSlot := 0,
                         collisions := 0 })

/-- Takes a frame in hand, with a fresh collision count (R3, R9). -/
def takeInHand (f : InHand) (s : State) : State :=
  s.setLi { s.li with tx := .waiting, inHand := some f, collisions := 0, slotsLeft := 0, partSlot := 0 }

/-- In RUN and IDLE the queue head is taken in hand, once the started beacon has completed (R3). -/
def takeQueueHead (s : State) : State :=
  if s.part.stationState = .run ∧ s.li.tx = .idle ∧ s.li.startedSent = true ∧ s.li.queue ≠ [] then
    takeInHand .queueHead s
  else s

/-- "A regular beacon in WAITING is abandoned if a notice joins the queue before its attempt begins" (R17, log 18). -/
def abandonWaitingBeacon (s : State) : State :=
  if s.li.tx = .waiting ∧ s.li.inHand = some .regularBeacon then dropFrame s else s

/-- The report flag by kind (R10). -/
def Notice.reported : Notice → Bool
  | .gross _ | .net _ | .tip _ | .dayEnd _ => true
  | .lotCrushed _ | .daySummary _ => false

/-- What SENT and NOTICE-LOST name (Table 2-7). -/
def Notice.name : Notice → NoticeName
  | .gross n => .key n.key
  | .net n => .key n.key
  | .tip n => .key n.lot.key
  | .lotCrushed n => .key n.lot.key
  | .dayEnd n => .closing n.closing
  | .daySummary _ => .nothing

/-- A notice at the tail of the queue, with the next sequence number (R10, R14). -/
def enqueue (n : Notice) (ages : Option AgePair) (s : State) : State :=
  s.setLi { s.li with
    lastSeq := s.li.lastSeq + 1
    queue := s.li.queue ++
      [{ notice := n, seq := s.li.lastSeq + 1, report := n.reported, begun := false, ages := ages }] }

/-- A unit offers a notice: it joins the queue, or is discarded and counted with NOTICE-LOST when 8 are present (R10). -/
def offer (n : Notice) (ages : Option AgePair) (s : State) : State :=
  if s.li.queue.length < Limits.transmitQueue then
    takeQueueHead (abandonWaitingBeacon (enqueue n ages s))
  else
    emit (.noticeLost n.kind n.name)
      (setCounters { s.li.counters with noticesLost := bump Limits.sat16 s.li.counters.noticesLost } s)

/-! ### The peer table (R15, R16, R18) -/

/-- The entry of a station number. -/
def peer (s : State) (n : StationNo) : PeerEntry := s.pt.peers[n]

/-- Replaces the entry of a station number. -/
def setPeer (n : StationNo) (e : PeerEntry) (s : State) : State :=
  s.setPt { s.pt with peers := s.pt.peers.set n e }

/-- How a frame's sequence is applied (R15, step 3). -/
inductive SeqUse where
  | accounting | startedBeacon | otherBeacon
  deriving DecidableEq, Repr

/-- Steps 1 and 2 of R15. -/
def PeerEntry.heardAs (e : PeerEntry) (role : Role) (fresh : Bool) : PeerEntry :=
  let changed := e.role.any (· ≠ role)
  { e with
    state := .heard, sinceMs := 0, role := some role, fresh := fresh
    lastSeq := if changed then none else e.lastSeq
    roleChanges := if changed then bump Limits.sat16 e.roleChanges else e.roleChanges }

/-- Step 3 of R15: the missed count saturates at 255 (section 1.7). -/
def PeerEntry.applySeq (e : PeerEntry) (kind : SeqUse) (seq : SeqNo) : PeerEntry :=
  match kind with
  | .startedBeacon => { e with lastSeq := none }
  | .accounting =>
    match e.lastSeq with
    | none => { e with lastSeq := some seq }
    | some last =>
      let d := (seq - last).toNat
      if d = 0 then e else { e with missed := min (e.missed + (d - 1)) 255, lastSeq := some seq }
  | .otherBeacon =>
    match e.lastSeq with
    | none => { e with lastSeq := some seq }
    | some last =>
      let d := (seq - last).toNat
      if 1 ≤ d ∧ d ≤ 127 then { e with missed := min (e.missed + d) 255, lastSeq := some seq } else e

/-- The station state a beacon's payload gives the peer table (R15, R32); log 12 where its first byte gives none. -/
def beaconState (p : List Byte) : BeaconSeen :=
  match p.head? with
  | some b => if b = 1 then .config else if b = 2 then .run else Config.malformedBeaconState p
  | none => Config.malformedBeaconState p

/-- The started field of a beacon's payload (Table 2-2); log 12 where there is no such byte. -/
def beaconStarted (p : List Byte) : Bool :=
  match p[1]? with
  | some b => bitOf 0 b.toNat
  | none => Config.malformedBeaconStarted p

/-- The peer entry after a GOOD frame (R15). An unknown kind counts as an accounting notice (R25). -/
def PeerEntry.afterFrame (e : PeerEntry) (role : Role) (h : FrameHeader) (kind : Nat) (p : List Byte) : PeerEntry :=
  let e' := e.heardAs role h.fresh
  if kind = 1 then
    { e'.applySeq (if beaconStarted p then .startedBeacon else .otherBeacon) h.seq with beaconSeen := beaconState p }
  else e'.applySeq .accounting h.seq

/-- "the roles on which the local role depends" (R18). -/
def dependsOn : Role → List Role
  | .entry => []
  | .exit => [.entry]
  | .tip => [.entry]
  | .mill => [.tip]
  | .lab => [.entry, .mill, .exit]

/-- One of the two conditions of R18 for a depended role. -/
def roleSilent (pt : PeerTable) (r : Role) : Bool :=
  pt.peers.toList.any (fun e => e.role == some r && e.state == .silent) ||
  (!(pt.peers.toList.any fun e => e.role == some r && e.state != .absent) && Limits.runMs ≤ pt.runMs)

/-- PEER-SILENT holds (R18; log 16). -/
def peerSilentHolds (s : State) : Bool :=
  s.part.stationState == .run && (s.part.role.toList.flatMap dependsOn).any (roleSilent s.pt)

/-- "PT reports the start and end of the condition to the monitor unit" (R18). -/
def reportPeerSilent (s : State) : State :=
  if s.part.stationState = .run then
    if peerSilentHolds s then conditionStarts .peerSilent s else conditionEnds .peerSilent s
  else s

/-! ### The crop day (R45, R59) -/

/-- The day held becomes `d`: when it changes, FP emits DAY-CHANGED (R45, R46), and at ENTRY the consignment sequence
restarts at 1 (R59). -/
def adoptDay (d : Nat) (s : State) : State :=
  if d = s.part.day then s
  else
    let s1 := emit (.dayChanged s.part.day d) (s.setPart { s.part with day := d })
    if s.part.role = some .entry then s1.setWu { s1.wu with consSeq := 1 } else s1

/-! ### Vehicle tare tables (R68) -/

/-- A write: the plate moves to the most recent end; a new plate pushes out the least recently used of 128 (R68). -/
def tareWrite (plate : Plate) (tare : Nat) (t : List TareEntry) : List TareEntry :=
  ⟨plate, tare⟩ :: (t.filter (·.plate ≠ plate)).take (Limits.tareTable - 1)

/-- A lookup (R68). -/
def tareLookup (plate : Plate) (t : List TareEntry) : Option Nat := (t.find? (·.plate = plate)).map (·.tare)

/-- The table after a lookup: "a lookup that finds the plate" is a use, one that does not changes nothing (R68). -/
def tareUsed (plate : Plate) (t : List TareEntry) : List TareEntry :=
  match t.find? (·.plate = plate) with
  | some e => e :: t.filter (·.plate ≠ plate)
  | none => t

end Sys2Proof.Machine
end

