-- ==== Sys2Proof/Machine/Station.lean ====
section
/-! DEFINITION. The part as a whole (03_station_start_up_and_configuration.md): power-on, pin reset and the straps, entry
to RUN (R39) and the move to MUTE (R40), with the meanings of POWER_ON, PIN_RESET, RESETN_FALL and POWER_UP_END. -/

namespace Sys2Proof.Machine

/-- The transmitter abandons its frame and any backoff, the queue is emptied without counting losses and the beacon timer
stops (R40, R44). A receiver that heard the part's own frame waits for quiet again (R12, log 28). -/
def LineInterface.stopped (li : LineInterface) : LineInterface :=
  { li with
    tx := .idle, inHand := none, frame := [], txTicks := 0, slotsLeft := 0, partSlot := 0, collisions := 0
    queue := [], beaconTimer := none
    rx := if li.tx = .sending ∨ li.tx = .mark then .waitQuiet else li.rx }

/-- The line interface on entry to RUN (R39): sequence 255, the beacon timer at 100 ms × station number; "Station 0 takes
it in hand on entry" (R17). -/
def LineInterface.started (station : StationNo) (li : LineInterface) : LineInterface :=
  let li' := { li.stopped with lastSeq := 255, startedSent := false }
  if station = 0 then { li' with tx := .waiting, inHand := some .startedBeacon }
  else { li' with beaconTimer := some (Limits.startedMs * station.val) }

/-- The peer table on entry to RUN (R39): entries already silent for the new period become SILENT, the 10 s measure starts. -/
def PeerTable.started (periodMs : Nat) (pt : PeerTable) : PeerTable where
  peers := mapTable (fun e =>
    if e.state = .heard ∧ periodMs ≤ e.sinceMs then { e with state := .silent } else e) pt.peers
  runMs := 0

/-- The juice attributor on entry to RUN: period 1 open and running, R_ref at its initial value (R118, R123). -/
def JuiceAttributor.started (initialRref : Nat) : JuiceAttributor :=
  { JuiceAttributor.reset with isOpen := true, k := 1, rref := initialRref }

/-- The monitor records on entry to RUN: fixed modes, or those of the configuration (R167). -/
def MonitorUnit.started (c : Settings) : MonitorUnit :=
  let r := MonitorUnit.reset.recs
  match c.forRole with
  | .entry w => ⟨r.set MonitorId.scaleOver.idx (.idle (some w.scaleOverMode) w.scaleOverQual)⟩
  | .exit w _ => ⟨r.set MonitorId.scaleOver.idx (.idle (some w.scaleOverMode) w.scaleOverQual)⟩
  | .mill m =>
    ⟨(r.set MonitorId.carrierStall.idx (.idle (some m.stallMode) m.stallQual)).set MonitorId.meterSilent.idx
      (.idle (some m.silentMode) m.silentQual)⟩
  | .tip _ => ⟨r⟩
  | .lab _ => ⟨r⟩

/-- The juice attributor's state on entry to RUN at a role: only MILL opens a period (R118). -/
def startedJuice (c : Settings) : JuiceAttributor :=
  match c.forRole with
  | .mill m => .started m.initialRref
  | _ => .reset

/-- The blocks on entry to RUN, before the crop day and PEER-SILENT are decided (R39). -/
def startUnits (c : Settings) (s : State) : State :=
  { s with
    part := { s.part with stationState := .run, settings := some c }
    li := s.li.started s.part.station
    pt := s.pt.started (c.silenceSeconds * 1000)
    wu := .reset
    tu := .reset
    cc := .reset
    cl := .reset
    ja := startedJuice c
    ra := .reset
    mu := .started c }

/-- "The station then enters RUN" (R39): LAB takes its first crop day (R46), then PEER-SILENT is decided (R18, log 17). -/
def enterRun (c : Settings) (s : State) : State :=
  let s1 := startUnits c s
  reportPeerSilent
    (match c.forRole with
      | .lab l => adoptDay l.firstDay s1
      | _ => s1)

/-- MONITOR events with new state 0, one for each monitor that is active (R40, R176). DESIGN CHOICE (log 32): they come in
order of monitor number, an order that R174 gives for CLEAR and no rule gives here. -/
def reportEnded (s : State) : State :=
  (MonitorId.all.filter fun i => (mon s i).active).foldl (fun t i => emit (.monitor i false) t) s

/-- The move to MUTE (R40): the line is released, the monitors end with their events, the tables are kept. -/
def enterMute (cause : MuteCause) (s : State) : State :=
  let s1 := reportEnded s
  { s1 with
    part := { s1.part with stationState := .mute, muteCause := cause }
    li := s1.li.stopped
    mu := s1.mu.cleared }

/-- The role of the straps (00_scope.md, Table 1). -/
def roleOfStraps : StrapLevel → StrapLevel → Option Role
  | .low, .floating => some .entry
  | .low, .high => some .exit
  | .floating, .low => some .tip
  | .floating, .high => some .mill
  | .high, .low => some .lab
  | _, _ => none

/-- The part at the start of POWER-UP, with this fresh flag (R35, R43). The waiting commands (log 1) and what is on the
wires (log 35) are the outside's, and stay. -/
def atPowerUp (fresh : Bool) (s : State) : State :=
  { State.reset with part := { Part.reset with fresh := fresh }, wires := s.wires, pending := s.pending }

/-- POWER_ON: "Power-on sets" the fresh flag and clears everything else (R43, R41). -/
def execPowerOn (s : State) : Host.Outcome State Fault Refusal := .next (atPowerUp true s)

/-- PIN_RESET: as power-on, but "pin reset leaves" the fresh flag "as it was" (R43, R41). -/
def execPinReset (s : State) : Host.Outcome State Fault Refusal := .next (atPowerUp s.part.fresh s)

/-- RESETN_FALL: "While RESETN is held low the part is held at the start of POWER-UP" (R35, R43, log 8). -/
def execResetnFall (s : State) : Host.Outcome State Fault Refusal :=
  let s1 := atPowerUp s.part.fresh s
  .next (s1.setPart { s1.part with resetLow := true })

/-- POWER_UP_END: the straps are sampled once; a role code leads to CONFIG, none to MUTE with cause strap (R36). The field
port begins to hunt (R35). -/
def execPowerUpEnd (station : StationNo) (roleA roleB : StrapLevel) (s : State) : Host.Outcome State Fault Refusal :=
  if s.part.stationState = .powerUp ∧ s.part.resetLow = false then
    let role := roleOfStraps roleA roleB
    let s1 := s.setPart { s.part with
      station := station, role := role, powerUpMs := Limits.powerUpMs
      stationState := if role.isSome then .config else .mute
      muteCause := if role.isSome then .noCause else .strap }
    .next (s1.setFp { s1.fp with rx := .hunt })
  else .next s

end Sys2Proof.Machine
end

