-- ==== Sys2Proof/Machine/Records.lean ====
section
/-! DEFINITION. How the field port decides a complete record (R183, R184, Table 10-1). -/

namespace Sys2Proof.Machine

/-- The field port takes bytes: it does not run in POWER-UP (R35), and it holds while 16 places are taken (R187, log 24). -/
def fieldPortTakes (s : State) : Bool :=
  s.part.stationState != .powerUp && decide (s.fp.out.length < Limits.outbound)

/-- The receiver hunts again after a record or a discard (R182). -/
def hunting (s : State) : State := s.setFp { s.fp with rx := .hunt }

/-- The reply of a record decided by its owning rule, detail 0 (R183). -/
def replyTo (k : RecordKind) (code : ReplyCode) (s : State) : State := place (.reply k.byte code 0) s

/-- A record whose owning rule decides it in RUN only, or also in CONFIG (Table 10-1). -/
def stateServes (k : RecordKind) (st : StationState) : Bool :=
  match k with
  | .statusRequest => st != .powerUp
  | .configure => st == .config
  | .clearFresh => st == .config || st == .run
  | _ => st == .run

/-- Steps 2 to 6 of R184: the refusal that comes before the record's own rule, if any. -/
def refusal (k : RecordKind) (p : List Byte) (s : State) : Option ReplyCode :=
  if k = .configure ∧ s.part.stationState ≠ .config then some .wrongState
  else if s.part.stationState = .mute ∧ s.part.muteCause = .strap ∧ k ≠ .statusRequest then some .wrongState
  else if !servedBy k s.part.role then some .wrongRole
  else if !lengthOk k s.part.role p.length then some .format
  else if !stateServes k s.part.stationState then some .wrongState
  else none

/-- A complete record with a good checksum (R183, R184): lost in the hold and in POWER-UP, refused by steps 2 to 6, or
decided by its owning rule `own`, which places its answers, its events and its reply. -/
def decideRecord (k : RecordKind) (p : List Byte) (own : State → State) (s : State) : State :=
  if fieldPortTakes s then
    match refusal k p s with
    | some code => replyTo k code (hunting s)
    | none => own (hunting s)
  else s

end Sys2Proof.Machine
end

