-- ==== Sys2Proof/Machine/FieldPort.lean ====
section
/-! DEFINITION. The field port (10_field_port.md) and the records every role serves: discards, refusals before the kind is
known, the outbound item sent, CONFIGURE, STATUS-REQUEST, CLEAR, CLEAR-FRESH, RESTART, and WITHDRAW (R11). -/

namespace Sys2Proof.Machine

/-! ### Records that do not reach a rule (R182 to R184) -/

/-- A discarded record: counted, no reply, the receiver hunts (R182). Nothing is taken in the hold or in POWER-UP. The row
is the discard of a record, "A field record is discarded", never a framing error outside one, which gives no command
(`FieldRx.framingError`); from HUNT the row stands for the whole record, its A5h included (log 11). -/
def discardRecord (s : State) : State :=
  if fieldPortTakes s then hunting (s.setFp { s.fp with discarded := bump Limits.sat16 s.fp.discarded }) else s

/-- RECORD_GAP_TIMEOUT (R182). -/
def execRecordGapTimeout (s : State) : Host.Outcome State Fault Refusal := .next (discardRecord s)

/-- RECORD_DISCARD (R182): a framing error, or a length above 60. -/
def execRecordDiscard (s : State) : Host.Outcome State Fault Refusal := .next (discardRecord s)

/-- RECORD_CHECKSUM_ERROR: "the record is refused with FORMAT and is acted on in no way" (R183). -/
def execRecordChecksumError (kind : Byte) (s : State) : Host.Outcome State Fault Refusal :=
  if fieldPortTakes s then .next (place (.reply kind .format 0) (hunting s)) else .next s

/-- RECORD_UNKNOWN_KIND: refused with UNKNOWN in every station state (R184 step 1). A kind of the inbound column is not this
event (log 4). -/
def execRecordUnknownKind (kind : Byte) (s : State) : Host.Outcome State Fault Refusal :=
  if fieldPortTakes s ∧ inboundCodes.contains kind.toNat = false then
    .next (place (.reply kind .unknown 0) (hunting s))
  else .next s

/-- OUTBOUND_ITEM_SENT (R185, R187): the head item frees its place; a receiver in the hold resumes in HUNT. -/
def execOutboundItemSent (s : State) : Host.Outcome State Fault Refusal :=
  if s.part.stationState ≠ .powerUp ∧ s.fp.out ≠ [] then
    .next (s.setFp { s.fp with
      out := s.fp.out.drop 1, outTicks := 0
      rx := if Limits.outbound ≤ s.fp.out.length then .hunt else s.fp.rx })
  else .next s

/-! ### CONFIGURE (R38, R39) -/

/-- The owning rule of CONFIGURE: OUT-OF-RANGE with the number of the first field that fails, or the settings stored whole
and entry to RUN, then ACCEPTED (R38, R39, R183). -/
def ownConfigure (p : List Byte) (s : State) : State :=
  match s.part.role with
  | none => s
  | some role =>
    match firstFailure (settingsChecks role p) with
    | some n => place (.reply RecordKind.configure.byte .outOfRange n) s
    | none => replyTo .configure .accepted (enterRun (readSettings role p) s)

/-- CONFIGURE (R38). -/
def execConfigure (p : List Byte) (s : State) : Host.Outcome State Fault Refusal :=
  .next (decideRecord .configure p (ownConfigure p) s)

/-! ### STATUS-REQUEST (R189, Table 2-7) -/

/-- The station state codes (Table 2-7). -/
def stationStateCode : StationState → Nat
  | .powerUp => 0
  | .config => 1
  | .run => 2
  | .mute => 3

/-- The MUTE cause codes (Table 2-7). -/
def muteCauseCode : MuteCause → Nat
  | .noCause => 0
  | .strap => 1
  | .duplicateStation => 2
  | .duplicateRole => 3

/-- The eleven counters of STATUS part 0, two bytes each (Table 2-7). -/
def counterBytes (s : State) : List Byte :=
  let c := s.li.counters
  [c.crcError, c.short, c.long, c.codeViolation, c.badSource, c.noticesLost, c.collisions, c.unknownKind, c.malformed,
    s.fp.discarded, s.fp.eventsDropped].flatMap (be 2)

/-- The 33 bytes of part 0 that every role gives (R189). -/
def statusStation (s : State) : List Byte :=
  be 1 0 ++ be 1 (stationStateCode s.part.stationState) ++ be 1 ((s.part.role.map roleCode).getD 0) ++
  be 1 (s.part.station.val * 16 + flagBit 0 s.part.fresh) ++ be 1 (muteCauseCode s.part.muteCause) ++
  be 2 s.part.day ++ be 2 s.mu.summary ++ be 1 s.li.queue.length ++ be 1 s.fp.out.length ++ counterBytes s

/-- What MILL and LAB add to part 0 (R189). -/
def statusRole (s : State) : List Byte :=
  match s.part.role with
  | some .mill => be 4 s.cc.p.toNat ++ be 2 s.cc.debt ++ be 2 s.cc.speed ++ be 2 s.ja.rref
  | some .lab =>
    be 2 s.ra.store.length ++ be 2 (s.ra.store.length - s.ra.readCount) ++ be 1 s.ra.table.length
  | some .entry | some .exit | some .tip | none => []

/-- The peer state codes (Table 2-7). -/
def peerStateCode : PeerState → Nat
  | .absent => 0
  | .heard => 1
  | .silent => 2

/-- The last beacon state codes (Table 2-7). -/
def beaconSeenCode : BeaconSeen → Nat
  | .nothing => 0
  | .config => 1
  | .run => 2

/-- The four bytes of a peer entry in STATUS (Table 2-7). -/
def peerBytes (e : PeerEntry) : List Byte :=
  be 1 (peerStateCode e.state + (e.role.map roleCode).getD 0 * 4 + flagBit 5 e.fresh + beaconSeenCode e.beaconSeen * 64) ++
  be 1 e.missed ++ be 2 e.roleChanges

/-- Parts 1 and 2: the peers of stations 0 to 7 and 8 to 15 (R189). -/
def statusPeers (part : Nat) (s : State) : List Byte :=
  be 1 part ++ ((s.pt.peers.toList.drop ((part - 1) * 8)).take 8).flatMap peerBytes

/-- The STATUS of a part, "the value at that moment" (R189). -/
def statusPayload (part : Nat) (s : State) : List Byte :=
  if part = 0 then statusStation s ++ statusRole s else statusPeers part s

/-- The part asked for: length 0 asks for part 0 (R189); the payload's one byte is read as 0 when absent. -/
def statusPart (p : List Byte) : Nat := field p 0 1

/-- The owning rule of STATUS-REQUEST (R189, R186). -/
def ownStatusRequest (p : List Byte) (s : State) : State :=
  if 2 < statusPart p then replyTo .statusRequest .outOfRange s
  else if Limits.eventPlaces ≤ s.fp.out.length then replyTo .statusRequest .busy s
  else replyTo .statusRequest .accepted (place (.status (statusPayload (statusPart p) s)) s)

/-- STATUS-REQUEST (R189). -/
def execStatusRequest (p : List Byte) (s : State) : Host.Outcome State Fault Refusal :=
  .next (decideRecord .statusRequest p (ownStatusRequest p) s)

/-! ### CLEAR, CLEAR-FRESH, RESTART -/

/-- One monitor under CLEAR: it ends if it is latched and its condition is clear (R174). -/
def clearOne (s : State) (i : MonitorId) : State :=
  if (mon s i).latched ∧ (mon s i).condition = false then finish i s else s

/-- The observations-in-a-row count of a monitor set to 0 (R174). -/
def zeroCount (s : State) (i : MonitorId) : State := setMon i { mon s i with count := 0 } s

/-- A CLEAR taken: the monitors in order of number, then the three counts (R174). -/
def takeClear (s : State) : State :=
  [MonitorId.scaleOver, .carrierStall, .meterSilent].foldl zeroCount (MonitorId.all.foldl clearOne s)

/-- CLEAR (R173, R174). -/
def execClear (p : List Byte) (s : State) : Host.Outcome State Fault Refusal :=
  .next (decideRecord .clear p (fun t => replyTo .clear .accepted (takeClear t)) s)

/-- CLEAR-FRESH (R42). -/
def execClearFresh (p : List Byte) (s : State) : Host.Outcome State Fault Refusal :=
  .next (decideRecord .clearFresh p
    (fun t => replyTo .clearFresh .accepted (t.setPart { t.part with fresh := false })) s)

/-- RESTART taken (R44): "every item is removed except one whose bytes are being sent" (R185, log 19), and the station
re-enters RUN with its stored configuration (R39). -/
def takeRestart (s : State) : State :=
  let s1 := s.setFp { s.fp with out := s.fp.out.take 1 }
  match s.part.settings with
  | some c => enterRun c s1
  | none => s1

/-- RESTART (R44). -/
def execRestart (p : List Byte) (s : State) : Host.Outcome State Fault Refusal :=
  .next (decideRecord .restart p (fun t => replyTo .restart .accepted (takeRestart t)) s)

/-! ### WITHDRAW (R11) -/

/-- The notice at position `i` (from 0) removed; a head that was in hand gives way to the new head (R11). -/
def takeWithdraw (i : Nat) (s : State) : State :=
  let s1 := s.setLi { s.li with queue := s.li.queue.eraseIdx i }
  if i = 0 ∧ s.li.inHand = some .queueHead then takeQueueHead (dropFrame s1) else s1

/-- The owning rule of WITHDRAW (R11): positions count from 1. -/
def ownWithdraw (p : List Byte) (s : State) : State :=
  let n := field p 0 1
  if n = 0 ∨ Limits.transmitQueue < n then replyTo .withdraw .outOfRange s
  else
    match s.li.queue[n - 1]? with
    | none => replyTo .withdraw .outOfRange s
    | some e =>
      if e.begun then replyTo .withdraw .late s else replyTo .withdraw .accepted (takeWithdraw (n - 1) s)

/-- WITHDRAW (R11). -/
def execWithdraw (p : List Byte) (s : State) : Host.Outcome State Fault Refusal :=
  .next (decideRecord .withdraw p (ownWithdraw p) s)

end Sys2Proof.Machine
end

