-- ==== Sys2Proof/Machine/Juice.lean ====
section
/-! DEFINITION. Juice metering and attribution (07_juice_metering_and_attribution.md): apportionment, the reference
extraction, the period close, and the release of lots it brings (R107, R108), with the meanings of FLOW_PULSE,
PERIOD_TIMER_EXPIRY and PAUSE_LIMIT_EXPIRY. -/

namespace Sys2Proof.Machine

/-! ### Lots by lot key -/

/-- The first lot with this lot key: "no two lots share a key, part number and number of parts" (R95). -/
def findLot (k : LotKey) (lots : List Lot) : Option Lot := lots.find? (·.lot = k)

/-- The list with the lot of this lot key changed (the first one, should a list hold two). -/
def updateLot (k : LotKey) (f : Lot → Lot) : List Lot → List Lot
  | [] => []
  | l :: rest => if l.lot = k then f l :: rest else l :: updateLot k f rest

/-- The place of a lot in lot order (R95); a lot not in the list stands after all. -/
def lotPlace (lots : List Lot) (k : LotKey) : Nat := lots.findIdx (·.lot = k)

/-! ### Apportionment (R132, R133) -/

/-- C: the sum of the shares of a breakdown (R119). -/
def shareSum (shares : List Share) : Nat := (shares.map (·.mass)).sum

/-- A share's first credit and fraction (R132). -/
structure Credit where
  lot : LotKey
  credit : Nat
  fraction : Nat
  deriving DecidableEq, Repr

/-- First credits: A × c ÷ C rounded down, and the remainder as fraction (R132). -/
def firstCredits (a : Nat) (shares : List Share) : List Credit :=
  shares.map fun s => { lot := s.lot, credit := a * s.mass / shareSum shares, fraction := a * s.mass % shareSum shares }

/-- The shares in lot order: "Shares with equal fractions are taken in lot order" (R133). -/
def inLotOrder (lots : List Lot) (shares : List Share) : List Share :=
  shares.insertionSort fun s t => lotPlace lots s.lot ≤ lotPlace lots t.lot

/-- Largest fraction first; equal fractions keep their order (R133). -/
def byFraction (cs : List Credit) : List Credit := cs.insertionSort fun c d => d.fraction ≤ c.fraction

/-- One kilogram more to each of the first `n` (R133). -/
def giveOut : Nat → List Credit → List Credit
  | n + 1, c :: cs => { c with credit := c.credit + 1 } :: giveOut n cs
  | _, cs => cs

/-- "The leftover is A minus the sum of the first credits" (R132). -/
def leftover (a : Nat) (cs : List Credit) : Nat := a - (cs.map (·.credit)).sum

/-- The apportionment of `a` kg over shares given in lot order (R132, R133). -/
def apportion (a : Nat) (shares : List Share) : List Credit :=
  let cs := firstCredits a shares
  giveOut (leftover a cs) (byFraction cs)

/-- The figure a credit goes to (R134). -/
inductive CreditTo where
  | measured | estimated
  deriving DecidableEq, Repr

/-- A credit added to a lot's figure, which saturates at 16,777,215 kg; the ESTIMATE path also flags the lot (R134, R138). -/
def Lot.credit (dest : CreditTo) (kg : Nat) (l : Lot) : Lot :=
  match dest with
  | .measured => { l with creditedMeasured := min (l.creditedMeasured + kg) Limits.credited }
  | .estimated =>
    { l with
      creditedEstimated := min (l.creditedEstimated + kg) Limits.credited
      flags := { l.flags with estimated := true } }

/-- Every credit added to its lot (R134). -/
def creditLots (dest : CreditTo) (cs : List Credit) (lots : List Lot) : List Lot :=
  cs.foldl (fun ls c => updateLot c.lot (Lot.credit dest c.credit) ls) lots

/-! ### Reference extraction (R139, R140) -/

/-- The attribution's extraction r, limited to 1,500 (R139). -/
def extraction (j c : Nat) : Nat := min (j * 1000 / c) Limits.rref

/-- The step of R140. -/
def rrefStep (m : MillSettings) (r rref : Nat) : Nat :=
  let diff := if r ≤ rref then rref - r else r - rref
  let step := if diff < m.window then 1 else m.step
  if r < rref ∧ m.asymmetric = true then max (step / 2) 1 else step

/-- R_ref moves toward r by the step, "and when r lies nearer than the step it takes r" (R140). -/
def moveRref (m : MillSettings) (r rref : Nat) : Nat :=
  if r < rref then max r (rref - rrefStep m r rref)
  else if rref < r then min r (rref + rrefStep m r rref)
  else rref

/-! ### Attribution (R128 to R131) -/

/-- A breakdown of the ring by number (R128). -/
def findBreakdown (n : BitVec 32) (ring : List Breakdown) : Option Breakdown := ring.find? (·.number = n)

/-- "The breakdown found is marked attributed" (R128). -/
def markAttributed (n : BitVec 32) (ring : List Breakdown) : List Breakdown :=
  ring.map fun b => if b.number = n then { b with attributed := true } else b

/-- Adds J to unallocated (R128, R137, R138). -/
def unallocate (j : Nat) (s : State) : State :=
  s.setJa { s.ja with unallocated := s.ja.unallocated + BitVec.ofNat 32 j }

/-- The measured path (R129): J to the shares, the day counter, and the reference extraction (R139). -/
def creditMeasured (j : Nat) (shares : List Share) (s : State) : State :=
  let c := shareSum shares
  let m := millCfg s
  let s1 := s.setCl { s.cl with
    lots := creditLots .measured (apportion j (inLotOrder s.cl.lots shares)) s.cl.lots }
  s1.setJa { s.ja with
    creditedMeasured := s.ja.creditedMeasured + BitVec.ofNat 32 j
    rref := if m.minCane ≤ c then moveRref m (extraction j c) s.ja.rref else s.ja.rref }

/-- J_est (R138). -/
def estimatedJuice (c rref : Nat) : Nat := c * rref / 1000

/-- The ESTIMATE path (R138): J to unallocated, J_est to the shares. -/
def creditEstimated (j : Nat) (shares : List Share) (s : State) : State :=
  let e := estimatedJuice (shareSum shares) s.ja.rref
  let s1 := unallocate j s
  let s2 := s1.setCl { s1.cl with
    lots := creditLots .estimated (apportion e (inLotOrder s1.cl.lots shares)) s1.cl.lots }
  s2.setJa { s2.ja with creditedEstimated := s2.ja.creditedEstimated + BitVec.ofNat 32 e }

/-- The METER-SILENT observation of an attribution with cane, on the record alone (R135, R136): its MONITOR event comes
later (R131). -/
def observeJuice (j : Nat) (r : MonitorRec) : MonitorRec :=
  if r.observes then
    if j = 0 then
      let r' := r.counted
      if r'.qual ≤ r'.count ∧ r'.active = false then
        { r' with active := true, latched := r'.mode == some .latched }
      else r'
    else
      let r' := { r with condition := false, count := 0 }
      if r'.mode = some .recover ∨ r'.mode = some .warn then { r' with active := false, latched := false } else r'
  else r

/-- An attribution with C above 0: the observation first, then the path it leaves (R129). -/
def attributeCane (j : Nat) (shares : List Share) (s : State) : State :=
  let s1 := setMon .meterSilent (observeJuice j (mon s .meterSilent)) s
  if (mon s1 .meterSilent).effective then
    match (millCfg s).policy with
    | .creditZero => unallocate j s1
    | .estimate => creditEstimated j shares s1
  else creditMeasured j shares s1

/-- "each lot that holds a share in the attributed breakdown has its outstanding count decreased by 1" (R130). -/
def countDown (shares : List Share) (lots : List Lot) : List Lot :=
  shares.foldl (fun ls sh => updateLot sh.lot (fun l => { l with outstanding := l.outstanding - 1 }) ls) lots

/-- The LOT-CRUSHED of a released lot (R108). -/
def Lot.crushedNotice (l : Lot) : LotCrushedNotice where
  lot := l.lot
  crushed := l.crushed
  creditedMeasured := l.creditedMeasured
  creditedEstimated := l.creditedEstimated
  flags := l.flags
  cause := .crushed
  shareCount := l.shareCount

/-- A lot is released in DRAINING with no breakdown outstanding (R107). -/
def Lot.released (l : Lot) : Bool := l.state == .draining && l.outstanding == 0

/-- Released lots leave the list in lot order, each offering its LOT-CRUSHED (R107, R108). -/
def releaseLots (s : State) : State :=
  let gone := s.cl.lots.filter Lot.released
  let s1 := s.setCl { s.cl with lots := s.cl.lots.filter fun l => !l.released }
  gone.foldl (fun t l => offer (.lotCrushed l.crushedNotice) none t) s1

/-- The attribution of J at the close of period `k`, with lag `d` (R128 to R130). -/
def attribution (j : Nat) (number : BitVec 32) (s : State) : State :=
  match findBreakdown number s.ja.ring with
  | none => unallocate j s
  | some b =>
    let s1 := if shareSum b.shares = 0 then unallocate j s else attributeCane j b.shares s
    let s2 := s1.setJa { s1.ja with ring := markAttributed number s1.ja.ring }
    if b.shares = [] then s2
    else releaseLots (s2.setCl { s2.cl with lots := countDown b.shares s2.cl.lots })

/-! ### The period close (R126 to R131) -/

/-- The grams a close settles (R126). -/
def settledGrams (s : State) : Nat := s.ja.pulses * (millCfg s).gramsPerPulse + s.ja.residue

/-- The ring after the push: "When the ring already holds 8, the oldest is removed before the push" (R127). -/
def pushRing (b : Breakdown) (ring : List Breakdown) : List Breakdown :=
  (if Limits.ring ≤ ring.length then ring.drop 1 else ring) ++ [b]

/-- Settles the pulses and files the breakdown (R126, R127); a forced close counts as one too (R125). -/
def settlePeriod (forced : Bool) (s : State) : State :=
  let g := settledGrams s
  s.setJa { s.ja with
    residue := g % 1000
    measured := s.ja.measured + BitVec.ofNat 32 (g / 1000)
    periods := bump Limits.sat16 s.ja.periods
    forced := if forced then bump Limits.sat16 s.ja.forced else s.ja.forced
    ring := pushRing ⟨s.ja.k, s.ja.shares, false⟩ s.ja.ring }

/-- Opens period k + 1 (R131); it opens paused while CARRIER-STALL holds the pause (R123). DESIGN CHOICE (log 36): also when a
resumption falls at the same instant as the pause limit and is still to be taken, where R124 has it open running. -/
def openPeriod (s : State) : State :=
  s.setJa { s.ja with
    isOpen := true, k := s.ja.k + 1, shares := [], pulses := 0, runningMs := 0, pausedMs := 0
    isPaused := (mon s .carrierStall).effective }

/-- The MONITOR event of a change that the close made to METER-SILENT, after the notices of the close (R131). -/
def reportMeterSilent (before : Bool) (s : State) : State :=
  if (mon s .meterSilent).active = before then s
  else emit (.monitor .meterSilent (mon s .meterSilent).active) s

/-- A period close, whole (R126 to R131): settle, file, attribute period k − d, release, open the next period, and end
METER-OVERRANGE (R121). -/
def closePeriod (forced : Bool) (s : State) : State :=
  let j := settledGrams s / 1000
  let number := s.ja.k - BitVec.ofNat 32 (millCfg s).lag
  let s1 := attribution j number (settlePeriod forced s)
  let s2 := reportMeterSilent (mon s .meterSilent).active s1
  conditionEnds .meterOverrange (openPeriod s2)

/-! ### The commands -/

/-- The attributor works: MILL in RUN with a period open (R118). -/
def juiceRuns (s : State) : Bool := runsAs .mill s && s.ja.isOpen

/-- FLOW_PULSE (R120, R121): counted, or an observation of METER-OVERRANGE when the count stands at 65,535. "FLOW must go low
and rise again before the next can be taken". -/
def execFlowPulse (s : State) : Host.Outcome State Fault Refusal :=
  if juiceRuns s then
    let s1 := s.setJa { s.ja with flowTicks := none }
    if s.ja.pulses < Limits.pulses then .next (s1.setJa { s1.ja with pulses := s.ja.pulses + 1 })
    else .next (conditionStarts .meterOverrange s1)
  else .next s

/-- PERIOD_TIMER_EXPIRY (R122): the running time reaches the period length; a paused period does not run (R123). -/
def execPeriodTimerExpiry (s : State) : Host.Outcome State Fault Refusal :=
  if juiceRuns s ∧ s.ja.isPaused = false then .next (closePeriod false s) else .next s

/-- PAUSE_LIMIT_EXPIRY (R124): the paused time of a paused period reaches 10 minutes. How the next period opens: log 36. -/
def execPauseLimitExpiry (s : State) : Host.Outcome State Fault Refusal :=
  if juiceRuns s ∧ s.ja.isPaused = true then .next (closePeriod false s) else .next s

end Sys2Proof.Machine
end

