-- ==== Sys2Proof/Machine/CrushLine.lean ====
section
/-! DEFINITION. The crush line (06_the_crush_line.md): lot entry from TIP notices, portions at the mouth with share entry
and forced closes, NET corrections, the pending-net table and the day balance. -/

namespace Sys2Proof.Machine

/-! ### Positions (R93: "compared by their signed difference modulo 2^32") -/

/-- `a` is before `b` on the carrier. -/
def before (a b : Position) : Bool := (a - b).msb

/-- `a` is at or before `b` on the carrier. -/
def atOrBefore (a b : Position) : Bool := !before b a

/-! ### Portions and shares (R104 to R106) -/

/-- "The portion a lot gives on one step is M_rem divided by S_rem, rounded down. When S_rem is 1, the portion is the
whole of M_rem" (R105). -/
def Lot.portion (l : Lot) : Nat := if l.spanRem ≤ 1 then l.massRem else l.massRem / l.spanRem

/-- The lot after its portion (R105, R94). -/
def Lot.afterPortion (l : Lot) : Lot :=
  { l with
    massRem := l.massRem - l.portion
    spanRem := l.spanRem - 1
    crushed := l.crushed + l.portion
    state := if l.spanRem ≤ 1 then .draining else .crushing }

/-- The open breakdown holds a share of this lot (R106). -/
def holdsShare (k : LotKey) (shares : List Share) : Bool := shares.any (·.lot = k)

/-- The forced close of R106: the lot needs a share and the open breakdown already holds 8. It runs before the portion is
taken (log 20). -/
def roomForShare (k : LotKey) (s : State) : State :=
  if !holdsShare k s.ja.shares && decide (Limits.shares ≤ s.ja.shares.length) then closePeriod true s else s

/-- The share of a lot grows by a portion (R106). -/
def addToShare (k : LotKey) (kg : Nat) (shares : List Share) : List Share :=
  shares.map fun sh => if sh.lot = k then { sh with mass := sh.mass + kg } else sh

/-- The lot takes a new share: its outstanding count and its share count each increase by 1 (R106). -/
def Lot.takesShare (l : Lot) : Lot :=
  { l with outstanding := l.outstanding + 1, shareCount := bump Limits.sat16 l.shareCount }

/-- The portion of one lot, entered as its share in the open breakdown (R105, R106). -/
def givePortion (k : LotKey) (s : State) : State :=
  let s1 := roomForShare k s
  match findLot k s1.cl.lots with
  | none => s1
  | some l =>
    let kg := l.portion
    let held := holdsShare k s1.ja.shares
    let s2 := s1.setJa { s1.ja with
      shares := if held then addToShare k kg s1.ja.shares else s1.ja.shares ++ [⟨k, kg⟩] }
    s2.setCl { s2.cl with
      crushed := s2.cl.crushed + BitVec.ofNat 32 kg
      lots := updateLot k (fun x => if held then x.afterPortion else x.afterPortion.takesShare) s2.cl.lots }

/-- A lot whose window covers position `p` (R104). -/
def Lot.covers (p : Position) (l : Lot) : Bool := atOrBefore l.front p && before p l.back

/-- The mouth takes position `p`: every lot whose window covers it gives a portion, in lot order (R104). -/
def advanceMouth (p : Position) (s : State) : State :=
  (s.cl.lots.filter (Lot.covers p)).foldl (fun t l => givePortion l.lot t) s

/-! ### A TIP notice (R97 to R103) -/

/-- The lot joins after every lot whose Pf is before or equal to its own (R95). -/
def insertLot (l : Lot) : List Lot → List Lot
  | [] => [l]
  | x :: rest => if before l.front x.front then l :: x :: rest else x :: insertLot l rest

/-- Pf, the front (R101). -/
def windowFront (p : Position) (n : TipNotice) : Position :=
  p - BitVec.ofNat 32 n.ageStart + BitVec.ofNat 32 n.distance

/-- Pb, the back: Pf + 1 when the ages are equal (R101). -/
def windowBack (p : Position) (n : TipNotice) : Position :=
  if n.ageStart = n.ageEnd then windowFront p n + 1
  else p - BitVec.ofNat 32 n.ageEnd + BitVec.ofNat 32 n.distance

/-- The flags of a new lot (R101); `corrected` when R99 applied. -/
def newLotFlags (n : TipNotice) (corrected : Bool) (s : State) : LotFlags :=
  { LotFlags.clear with
    synthetic := n.flags.synthetic
    grossUnknown := n.flags.grossUnknown
    positionSuspect := n.flags.positionSuspect || (mon s .reverseOverrun).active
    ageSaturated := n.flags.ageSaturated
    netCorrected := corrected }

/-- The lot of a TIP notice with this part mass, ON-CARRIER (R101, R102). -/
def newLot (n : TipNotice) (mass : Nat) (flags : LotFlags) (p : Position) : Lot where
  lot := n.lot
  front := windowFront p n
  back := windowBack p n
  span := (windowBack p n - windowFront p n).toNat
  spanRem := (windowBack p n - windowFront p n).toNat
  massRem := mass
  crushed := 0
  creditedMeasured := 0
  creditedEstimated := 0
  outstanding := 0
  shareCount := 0
  state := .onCarrier
  flags := flags

/-- A lot enters the list at its place, and its mass enters the day (R102). -/
def enterLot (l : Lot) (s : State) : State :=
  s.setCl { s.cl with
    lots := insertLot l s.cl.lots
    entered := s.cl.entered + BitVec.ofNat 32 l.massRem }

/-- `n` positions of one lot crushed at once (R103). -/
def crushPositions (k : LotKey) : Nat → State → State
  | 0, s => s
  | n + 1, s => crushPositions k n (givePortion k s)

/-- "The positions crushed number the lesser of P − Pf and S" (R103). -/
def latePositions (l : Lot) (p : Position) : Nat := min (p - l.front).toNat l.span

/-- A lot not tracked: written off, with its event and its LOT-CRUSHED (R100). -/
def writeOff (n : TipNotice) (mass : Nat) (flags : LotFlags) (s : State) : State :=
  let s1 := s.setCl { s.cl with
    entered := s.cl.entered + BitVec.ofNat 32 mass
    writtenOff := s.cl.writtenOff + BitVec.ofNat 32 mass }
  offer (.lotCrushed {
      lot := n.lot, crushed := 0, creditedMeasured := 0, creditedEstimated := 0
      flags := { flags with notTracked := true }, cause := .notTracked, shareCount := 0 }) none
    (emit (.notTracked n.lot mass) s1)

/-- The pending net that a TIP notice takes: only k = 1, m = 1 and SYNTHETIC clear look in the table (R99). -/
def pendingNetFor (n : TipNotice) (s : State) : Option Nat :=
  if n.lot.k = 1 ∧ n.lot.m = 1 ∧ n.lot.key.synthetic = false then
    (s.cl.pendingNets.find? (·.key = n.lot.key)).map (·.net)
  else none

/-- The lot is placed: written off when the list is full (R100), on the carrier (R102), or as a late entry (R103). -/
def placeLot (n : TipNotice) (mass : Nat) (corrected : Bool) (s : State) : State :=
  let flags := newLotFlags n corrected s
  if Limits.lots ≤ s.cl.lots.length then writeOff n mass flags s
  else
    let l := newLot n mass flags s.cc.p
    if before l.front s.cc.p then
      crushPositions l.lot (latePositions l s.cc.p)
        (enterLot { l with flags := { l.flags with lateEntry := true } } s)
    else enterLot l s

/-- A well-formed TIP notice at MILL (R97): duplicate (R98), pending net (R99), then the lot is placed. -/
def takeTip (n : TipNotice) (s : State) : State :=
  if (findLot n.lot s.cl.lots).isSome then countMalformed s
  else
    match pendingNetFor n s with
    | some net =>
      placeLot n net true (s.setCl { s.cl with
        pendingNets := s.cl.pendingNets.filter (·.key ≠ n.lot.key) })
    | none => placeLot n n.mass false s

/-! ### NET notices (R109 to R113) -/

/-- A lot after a NET in ON-CARRIER or CRUSHING (R110, R111). -/
def Lot.corrected (net : Nat) (l : Lot) : Lot :=
  match l.state with
  | .onCarrier => { l with massRem := net, flags := { l.flags with netCorrected := true } }
  | .crushing =>
    { l with
      massRem := net - l.crushed
      flags := { l.flags with netCorrected := true, overCredited := l.flags.overCredited || decide (net < l.crushed) } }
  | .draining => l

/-- A NET entered in the pending-net table (R113): a held key keeps its place, a full table drops its oldest. -/
def enterPendingNet (key : Key) (net : Nat) (s : State) : State :=
  let t := s.cl.pendingNets
  if t.any (·.key = key) then
    s.setCl { s.cl with pendingNets := t.map fun e => if e.key = key then { e with net := net } else e }
  else if Limits.pendingNets ≤ t.length then
    countMalformed (s.setCl { s.cl with pendingNets := t.drop 1 ++ [⟨key, net⟩] })
  else s.setCl { s.cl with pendingNets := t ++ [⟨key, net⟩] }

/-- A well-formed NET at MILL (R109). -/
def takeNetAtMill (n : NetNotice) (s : State) : State :=
  match s.cl.lots.find? (fun l => decide (l.lot.key = n.key) && l.lot.m == 1) with
  | some l =>
    s.setCl { s.cl with
      corrections := s.cl.corrections + (BitVec.ofNat 32 (l.corrected n.net).massRem - BitVec.ofNat 32 l.massRem)
      lots := updateLot l.lot (Lot.corrected n.net) s.cl.lots }
  | none =>
    if s.cl.lots.any (·.lot.key = n.key) then s else enterPendingNet n.key n.net s

/-! ### The day balance (R114 to R116) -/

/-- The on-carrier mass: "the sum of M_rem over lots in ON-CARRIER and CRUSHING, computed whenever it is read" (R114). -/
def onCarrierMass (lots : List Lot) : Nat := ((lots.filter fun l => l.state != .draining).map (·.massRem)).sum

/-- The twelve counters a DAY-SUMMARY carries, as sampled (R31, R116, R143). -/
def millCounters (s : State) : MillCounters where
  entered := s.cl.entered
  carriedIn := s.cl.carriedIn
  corrections := s.cl.corrections
  crushed := s.cl.crushed
  onCarrier := BitVec.ofNat 32 (onCarrierMass s.cl.lots)
  writtenOff := s.cl.writtenOff
  measured := s.ja.measured
  creditedMeasured := s.ja.creditedMeasured
  creditedEstimated := s.ja.creditedEstimated
  unallocated := s.ja.unallocated
  periods := s.ja.periods
  forced := s.ja.forced

/-- The day counters after a DAY-END: zero, and carried in takes the on-carrier mass sampled (R116, R143). -/
def zeroDay (s : State) : State :=
  let s1 := s.setCl { s.cl with
    entered := 0, corrections := 0, crushed := 0, writtenOff := 0
    carriedIn := BitVec.ofNat 32 (onCarrierMass s.cl.lots) }
  s1.setJa { s1.ja with
    measured := 0, creditedMeasured := 0, creditedEstimated := 0, unallocated := 0, periods := 0, forced := 0 }

/-- A well-formed DAY-END at MILL: one DAY-SUMMARY for the closing day, then one zeroing (R116, R117, R143). -/
def takeDayEndAtMill (n : DayEndNotice) (s : State) : State :=
  zeroDay (offer (.daySummary ⟨n.closing, millCounters s⟩) none s)

end Sys2Proof.Machine
end

