-- ==== Sys2Proof/Machine/Carrier.lean ====
section
/-! DEFINITION. The carrier counter (05_tippler_station_and_carrier_counting.md sections 5.6 to 5.8): net forward steps and
reverse debt, the speed measurement and the stall observations of MILL, with the meanings of their commands. -/

namespace Sys2Proof.Machine

/-! ### Ages in flight (R84) -/

/-- One net forward step at an age counter pair; "A pair whose counter reaches 65,535 is marked AGE-SATURATED" (R84). -/
def AgePair.step (a : AgePair) : AgePair where
  ageStart := bump Limits.age a.ageStart
  ageEnd := bump Limits.age a.ageEnd
  saturated := a.saturated || bump Limits.age a.ageStart == Limits.age || bump Limits.age a.ageEnd == Limits.age

/-- One net forward step at TIP: the session age counter and every queued pair count (R84). -/
def countAges (s : State) : State :=
  let s1 := s.setTu { s.tu with
    sessionAge := if s.tu.session = .idle then s.tu.sessionAge else s.tu.sessionAge.map (bump Limits.age) }
  s1.setLi { s1.li with queue := s1.li.queue.map fun e => { e with ages := e.ages.map AgePair.step } }

/-! ### Steps (R86 to R88) -/

/-- The carrier counter works: TIP or MILL in RUN (R85). -/
def carrierRuns (s : State) : Bool := runsAs .tip s || runsAs .mill s

/-- A net forward step: P advances, and the step goes to the tip unit or to the crush line (R87). -/
def netForwardStep (s : State) : State :=
  let p := s.cc.p
  let s1 := s.setCc { s.cc with p := p + 1 }
  if s.part.role = some .tip then countAges s1 else advanceMouth p s1

/-- A forward STEP: it repays the debt, or is a net forward step; the debt's end ends REVERSE-OVERRUN (R87, R88). -/
def forwardStep (s : State) : State :=
  if s.cc.debt = 0 then netForwardStep s
  else
    let s1 := s.setCc { s.cc with debt := s.cc.debt - 1 }
    if s.cc.debt = 1 then conditionEnds .reverseOverrun s1 else s1

/-- REVERSE-OVERRUN becoming active sets the mark of a running session (R79). -/
def markOverrun (s : State) : State :=
  if s.tu.session = .idle then s else s.setTu { s.tu with overrunMark := true }

/-- A reverse STEP: it adds to the debt, or is lost at 65,535 as an observation of REVERSE-OVERRUN (R86, R88). -/
def reverseStep (s : State) : State :=
  if s.cc.debt < Limits.debt then s.setCc { s.cc with debt := s.cc.debt + 1 }
  else markOverrun (conditionStarts .reverseOverrun s)

/-! ### Stall observations (R91, R92) -/

/-- Observations are made once withholding has ended, while RUN stays active, at MILL (R91). -/
def stallWatched (s : State) : Bool := runsAs .mill s && s.cc.runLevel && !s.cc.withholding

/-- A stall observation; the quiet interval count restarts (R91). -/
def stallObservation (s : State) : State :=
  observe .carrierStall (s.setCc { s.cc with quietCycles := 0, lastStall := (mon s .carrierStall).observes })

/-- The condition of CARRIER-STALL no longer holds: the count is 0, and RECOVER and WARN end (R91, R92). -/
def stallEnds (s : State) : State := endingEvent .carrierStall (observeContrary .carrierStall s)

/-- A live observation (R91, R92). -/
def liveObservation (s : State) : State := stallEnds (s.setCc { s.cc with lastStall := false })

/-! ### Speed (R89) -/

/-- N: the configured speed range at MILL, 1 at TIP (R89). -/
def speedRange (s : State) : Nat := if s.part.role = some .mill then (millCfg s).speedRange else 1

/-- The pulse as withholding sees it: the second since RUN became active ends it (R91). The quiet count restarts. -/
def countRunPulse (s : State) : State :=
  let n := if s.cc.runLevel then min (s.cc.runPulses + 1) 2 else s.cc.runPulses
  s.setCc { s.cc with
    quietCycles := 0
    runPulses := n
    withholding := s.cc.withholding && decide (n < 2) }

/-- The pulse as the speed measurement sees it: it starts one, counts, or ends one at the Nth pulse and starts the next;
that end is a live observation when the count is below 4,095 (R89, R91). DESIGN CHOICE (log 34): R91 names no observation
for an end at exactly 4,095 before SPEED_SATURATION is taken; here that end is none. -/
def measurePulse (s : State) : State :=
  match s.cc.measure with
  | none => s.setCc { s.cc with measure := some ⟨0, 0⟩ }
  | some m =>
    if speedRange s ≤ m.pulses + 1 then
      let s1 := s.setCc { s.cc with speed := m.cycles, measure := some ⟨0, 0⟩ }
      if stallWatched s1 && decide (m.cycles < Limits.stopped) then liveObservation s1 else s1
    else s.setCc { s.cc with measure := some { m with pulses := m.pulses + 1 } }

/-- STEP_PULSE (R86 to R89, R91): the pulse is counted and handed on, then measured (log 21). -/
def execStepPulse (forward : Bool) (s : State) : Host.Outcome State Fault Refusal :=
  if carrierRuns s then
    .next (measurePulse (countRunPulse (if forward then forwardStep s else reverseStep s)))
  else .next s

/-- SPEED_SATURATION (R89): the speed count reads stopped and no measurement runs; a stall observation at MILL (R91). -/
def execSpeedSaturation (s : State) : Host.Outcome State Fault Refusal :=
  if carrierRuns s ∧ s.cc.measure.isSome then
    let s1 := s.setCc { s.cc with speed := Limits.stopped, measure := none, quietCycles := 0 }
    .next (if stallWatched s1 then stallObservation s1 else s1)
  else .next s

/-- STALL_QUIET_INTERVAL (R91): 4,095 further cycles with no pulse and no measurement are a stall observation. -/
def execStallQuietInterval (s : State) : Host.Outcome State Fault Refusal :=
  if stallWatched s ∧ s.cc.measure = none then .next (stallObservation s) else .next s

/-- RUN_CONTACT_ACTIVE (R90 to R92): withholding begins, with the pulse count and the observations in a row at 0. "The
condition of the monitor holds while RUN is taken as active and the latest observation was a stall observation": it holds
again if the latest was. DESIGN CHOICE (log 37): R169 takes a release as a contrary observation, R91 has it make none. -/
def execRunContactActive (s : State) : Host.Outcome State Fault Refusal :=
  if runsAs .mill s ∧ s.cc.runLevel = false then
    let s1 := s.setCc { s.cc with
      runLevel := true, runSteady := 0, withholding := true, runPulses := 0, allowanceMs := 0 }
    .next (setMon .carrierStall { mon s1 .carrierStall with count := 0, condition := s.cc.lastStall } s1)
  else .next s

/-- RUN_CONTACT_RELEASE (R91, R92): the count is 0, withholding and its timer are cancelled, the condition no longer holds, and
RECOVER and WARN end. It makes no observation (R91), so the latest stays the latest: DESIGN CHOICE (log 37) against the
contrary observation of R169, whose two effects it has all the same. -/
def execRunContactRelease (s : State) : Host.Outcome State Fault Refusal :=
  if runsAs .mill s ∧ s.cc.runLevel = true then
    .next (stallEnds (s.setCc { s.cc with runLevel := false, runSteady := 0, withholding := false, allowanceMs := 0 }))
  else .next s

/-- START_ALLOWANCE_EXPIRY (R91): withholding ends with one stall observation. -/
def execStartAllowanceExpiry (s : State) : Host.Outcome State Fault Refusal :=
  if runsAs .mill s ∧ s.cc.withholding = true then
    .next (stallObservation (s.setCc { s.cc with withholding := false }))
  else .next s

end Sys2Proof.Machine
end

