-- ==== Sys2Proof/Machine/TipUnit.lean ====
section
/-! DEFINITION. The tip unit (05_tippler_station_and_carrier_counting.md sections 5.1 to 5.5): the awaiting table, arming
and tip sessions, with the meanings of ASSIGN, DISARM and the tippler's commands. -/

namespace Sys2Proof.Machine

/-! ### The awaiting table (R72, R73) -/

/-- A well-formed GROSS at TIP: ignored and counted for a key already known, else an entry joins, pushing out the oldest
of 32 (R72). -/
def takeGrossAtTip (n : GrossNotice) (s : State) : State :=
  let e : AwaitingEntry := ⟨n.key, n.plate, n.gross, 0⟩
  if s.tu.awaiting.any (·.key = n.key) || s.tu.arming.any (·.key = n.key) then countMalformed s
  else if Limits.awaiting ≤ s.tu.awaiting.length then
    countMalformed (s.setTu { s.tu with awaiting := s.tu.awaiting.drop 1 ++ [e] })
  else s.setTu { s.tu with awaiting := s.tu.awaiting ++ [e] }

/-- A well-formed NET at TIP: the awaiting entry leaves (R73), and a WEIGHED tare is written (R70). -/
def takeNetAtTip (n : NetNotice) (s : State) : State :=
  s.setTu { s.tu with
    awaiting := s.tu.awaiting.filter (·.key ≠ n.key)
    tares := if n.basis = .weighed then tareWrite n.plate n.tare s.tu.tares else s.tu.tares }

/-- AWAITING_ENTRY_EXPIRY (R73): the entry is removed with no notice, event or count. -/
def execAwaitingEntryExpiry (key : Key) (s : State) : Host.Outcome State Fault Refusal :=
  if runsAs .tip s then
    .next (s.setTu { s.tu with awaiting := s.tu.awaiting.filter (·.key ≠ key) })
  else .next s

/-! ### Arming (R74 to R77) -/

/-- "Each part mass is the total divided by m. The remainder ... is added to part 1" (R75). -/
def partMasses (total m : Nat) : List Nat := (total / m + total % m) :: List.replicate (m - 1) (total / m)

/-- The found entry becomes the arming record, with the tare estimate of its plate (R75). -/
def armFound (e : AwaitingEntry) (m : Nat) (s : State) : State :=
  let estimate := (tareLookup e.plate s.tu.tares).getD (tipCfg s).defaultTare
  s.setTu { s.tu with
    awaiting := s.tu.awaiting.filter (·.key ≠ e.key)
    tares := tareUsed e.plate s.tu.tares
    arming := some { key := e.key, grossUnknown := false, m := m, next := 1
                     masses := partMasses (e.gross - estimate) m } }

/-- A synthetic key is armed, and the synthetic sequence advances (R76). -/
def armSynthetic (s : State) : State :=
  s.setTu { s.tu with
    synSeq := nextSeq s.tu.synSeq
    arming := some { key := ⟨s.part.day, s.part.station, s.tu.synSeq, true⟩, grossUnknown := true, m := 1, next := 1
                     masses := [(tipCfg s).defaultLotMass] } }

/-- The number of bins an ASSIGN names, in either form (Table 2-5). -/
def assignParts (p : List Byte) : Nat := if field p 0 1 = 1 then field p 9 1 else field p 5 1

/-- The ranges of R74 step 4. -/
def assignInRange (p : List Byte) : Bool :=
  within 1 3 (assignParts p) &&
  (if field p 0 1 = 1 then ((p.drop 1).take 8).all plateChar
   else field p 0 1 == 2 && (readKey p 1 false).day != 0 && (readKey p 1 false).seq != 0)

/-- The awaiting entry an ASSIGN names: the oldest with the plate, or the one with the key (R75). -/
def assignedEntry (p : List Byte) (s : State) : Option AwaitingEntry :=
  if field p 0 1 = 1 then s.tu.awaiting.find? (·.plate = (p.drop 1).take 8)
  else s.tu.awaiting.find? (·.key = readKey p 1 false)

/-- An ASSIGN that passed every check (R75, R76). -/
def takeAssign (p : List Byte) (s : State) : State :=
  match assignedEntry p s with
  | some e => armFound e (assignParts p) s
  | none => armSynthetic s

/-- The owning rule of ASSIGN (R74, steps 3 to 6). -/
def ownAssign (p : List Byte) (s : State) : State :=
  if (field p 0 1 = 1 ∧ p.length ≠ 10) ∨ (field p 0 1 = 2 ∧ p.length ≠ 6) then replyTo .assign .format s
  else if !assignInRange p then replyTo .assign .outOfRange s
  else if s.tu.session ≠ .idle then replyTo .assign .busy s
  else if s.tu.arming.isSome then replyTo .assign .busy s
  else replyTo .assign .accepted (takeAssign p s)

/-- ASSIGN (R74). -/
def execAssign (p : List Byte) (s : State) : Host.Outcome State Fault Refusal :=
  .next (decideRecord .assign p (ownAssign p) s)

/-- The owning rule of DISARM (R77). -/
def ownDisarm (s : State) : State :=
  if s.tu.session ≠ .idle then replyTo .disarm .busy s
  else replyTo .disarm .accepted (s.setTu { s.tu with arming := none })

/-- DISARM (R77). -/
def execDisarm (p : List Byte) (s : State) : Host.Outcome State Fault Refusal :=
  .next (decideRecord .disarm p ownDisarm s)

/-! ### The tip session (R78 to R83) -/

/-- TIPPING_ACTIVE (R78, R79): a session starts, arming a synthetic key if none is armed. -/
def execTippingActive (s : State) : Host.Outcome State Fault Refusal :=
  if runsAs .tip s ∧ s.tu.tipLevel = false then
    let s1 := if s.tu.arming.isSome then s else armSynthetic s
    .next (s1.setTu { s1.tu with
      tipLevel := true, tipSteady := 0, session := .tipping, sessionAge := some 0, minTipMs := 0
      overrunMark := (mon s .reverseOverrun).active })
  else .next s

/-- MIN_TIP_TIME_EXPIRY (R80): TIPPING moves to SETTLE. -/
def execMinTipTimeExpiry (s : State) : Host.Outcome State Fault Refusal :=
  if runsAs .tip s ∧ s.tu.session = .tipping then .next (s.setTu { s.tu with session := .settle }) else .next s

/-- The session is over: level inactive, age and mark discarded (R80, R81). -/
def endSession (s : State) : State :=
  s.setTu { s.tu with tipLevel := false, tipSteady := 0, session := .idle, sessionAge := none, overrunMark := false }

/-- The lot key of the part being tipped (R81). -/
def Arming.lot (a : Arming) : LotKey := ⟨a.key, a.next, a.m⟩

/-- The age counter pair of a new lot: age_start takes the session age, age_end starts at 0 (R81, R84). -/
def newAgePair (age : Nat) : AgePair := ⟨age, 0, decide (Limits.age ≤ age)⟩

/-- The TIP notice of a lot, with the lot flags of R82. -/
def tipNotice (a : Arming) (s : State) : TipNotice where
  lot := a.lot
  mass := a.masses.getD (a.next - 1) 0
  ageStart := s.tu.sessionAge.getD 0
  ageEnd := 0
  distance := (tipCfg s).distance
  flags := { LotFlags.clear with
    synthetic := a.key.synthetic, grossUnknown := a.grossUnknown, positionSuspect := s.tu.overrunMark
    ageSaturated := (newAgePair (s.tu.sessionAge.getD 0)).saturated }
  attempt := 1

/-- The arming record after a lot: the next part, or none when k was m (R81). -/
def Arming.advance (a : Arming) : Option Arming := if a.next = a.m then none else some { a with next := a.next + 1 }

/-- A release in SETTLE, with a lot (R81): the TIP notice is offered, TIPPED is emitted, the part number advances. -/
def tipLot (a : Arming) (s : State) : State :=
  let s1 := offer (.tip (tipNotice a s)) (some (newAgePair (s.tu.sessionAge.getD 0))) s
  let s2 := emit (.tipped a.lot) s1
  endSession (s2.setTu { s2.tu with arming := a.advance })

/-- TIPPING_RELEASE: in TIPPING the session ends with no lot (R80), in SETTLE with a lot (R81). -/
def execTippingRelease (s : State) : Host.Outcome State Fault Refusal :=
  if runsAs .tip s ∧ s.tu.tipLevel = true then
    if s.tu.session = .settle then
      match s.tu.arming with
      | some a => .next (tipLot a s)
      | none => .next (endSession s)
    else .next (endSession s)
  else .next s

end Sys2Proof.Machine
end

