-- ==== Sys2Proof/Machine/Pins.lean ====
section
/-! DEFINITION. The output pins, as views of the state (log 26): ALERT (R175), TLE and TLD (R1, R4, R6, R7) and TXD
(R181); and what the line then reads as on TLR (section 1.1). A level here is the one from now to the next tick. -/

namespace Sys2Proof.Machine

/-- ALERT is driven low while a monitor in LATCHED or RECOVER mode is active (R175). -/
def alertLow (s : State) : Bool := MonitorId.all.any fun i => (mon s i).effective

/-- What the part drives on the line: in SENDING the half-bit of the frame (R1, R4), in MARK low for 2 bit times (R7).
Released, the line has no level of this part's. -/
def lineLevel (s : State) : Option Bool :=
  match s.li.tx with
  | .sending => (halfBits s.li.frame)[s.li.txTicks / Limits.halfBitTicks]?
  | .mark => if s.li.txTicks < Limits.markTicks then some false else none
  | .idle | .waiting | .backoff => none

/-- TLE: the line is driven in an attempt and in a collision mark, and released otherwise (R1). -/
def lineEnabled (s : State) : Bool := (lineLevel s).isSome

/-- TLR: "while any station drives low the line reads low. When a station drives high, or no station drives, the line reads
high" (section 1.1). -/
def lineReads (s : State) : Bool := (lineLevel s).getD true && s.wires.line.level

/-- A mismatch: the level read on TLR differs from the level driven (R6, R7). -/
def lineMismatch (s : State) : Bool := s.li.tx == .sending && (lineLevel s).any (· != lineReads s)

/-- The ten levels of a byte on TXD: start bit low, least significant bit first, stop bit high (R181). -/
def serialBits (b : Byte) : List Bool := [false] ++ (List.range 8).map (fun i => b.getLsbD i) ++ [true]

/-- TXD: the bits of the item being sent, back to back at 19,200 baud, and high at rest (R181, R35). 625 ticks of 2 µs
are 24 bit times. -/
def txd (s : State) : Bool :=
  if s.part.stationState = .powerUp then true
  else
    match s.fp.out with
    | it :: _ => ((it.wire.flatMap serialBits)[s.fp.outTicks * 24 / 625]?).getD true
    | [] => true

end Sys2Proof.Machine
end

