-- ==== Sys2Proof/Machine/Wires.lean ====
section
/-! DEFINITION. The two receivers, bit by bit and byte by byte: the line receiver with its bit clock, from the levels of
TLR to a status (R1, R12), the header it reads (Table 2-1, R33), the field port receiver from the start byte to the checksum
(R181, R182, R187), and the command each reception stands for; with the levels that the outside drives. -/

namespace Sys2Proof.Machine

/-! ### Bits and bytes -/

/-- A byte from its bits, most significant first (R1). -/
def byteOfBits (bits : List Bool) : Byte := BitVec.ofNat 8 (bits.foldl (fun n b => 2 * n + b.toNat) 0)

/-- The whole bytes of a list of bits, most significant bit first (R1). -/
def bytesOfBits : List Bool → List Byte
  | b7 :: b6 :: b5 :: b4 :: b3 :: b2 :: b1 :: b0 :: rest =>
    byteOfBits [b7, b6, b5, b4, b3, b2, b1, b0] :: bytesOfBits rest
  | _ => []

/-! ### Levels in time -/

/-- 2 µs of a level that the outside drives: the next change comes nearer, or comes. -/
def Wave.tick (w : Wave) : Wave :=
  match w.next with
  | [] => w
  | c :: rest => if c.wait ≤ 1 then ⟨c.level, rest⟩ else ⟨w.level, { c with wait := c.wait - 1 } :: rest⟩

/-! ### The line receiver (R12) -/

/-- "alternating preamble bits": each bit differs from the one before. -/
def alternates (bits : List Bool) : Bool := (bits.zip (bits.drop 1)).all fun p => p.1 != p.2

/-- "a sync byte found after at least 8 alternating preamble bits" (R12), the sync byte B4h (R4), as the last 16 bits. -/
def syncFound (last : List Bool) : Bool :=
  last.length == 16 && alternates (last.take 8) && bytesOfBits (last.drop 8) == [0xB4]

/-- Header byte 0 and the sequence as a frame header (Table 2-1): bits 7 to 4 the station, 3 to 1 the role code, 0 the
fresh flag. -/
def readHeader (source : Byte) (seq : SeqNo) : FrameHeader where
  station := Fin.ofNat 16 (source.toNat / 16)
  roleCode := Fin.ofNat 8 (source.toNat / 2)
  fresh := source.getLsbD 0
  seq := seq

/-- The reception of a GOOD frame, by its kind byte (Table 2-2, R25). -/
def frameCommand (h : FrameHeader) (kind : Byte) (p : List Byte) : Instr :=
  match kind.toNat with
  | 1 => .receiveBeacon h p
  | 2 => .receiveGross h p
  | 3 => .receiveNet h p
  | 4 => .receiveTip h p
  | 5 => .receiveLotCrushed h p
  | 6 => .receiveDayEnd h p
  | 7 => .receiveDaySummary h p
  | _ => .receiveUnknownKind h kind p

/-- The command of a frame whose bytes after the sync byte are all taken: the reception, or CRC-ERROR (R12, R5). -/
def endedFrame (bytes : List Byte) : Instr :=
  match takeFrame bytes with
  | .ok (source :: kind :: seq :: _, p) => frameCommand (readHeader source seq) kind p
  | .ok (_, _) => .frameError .short
  | .error e => .frameError e

/-- One bit with its mid-bit transition (R12), and the command that its status gives: the state stays until that command
takes the receiver to WAIT-QUIET. -/
def LineRx.takeBit (rx : LineRx) (b : Bool) : LineRx × List Instr :=
  match rx with
  | .waitQuiet => (.waitQuiet, [])
  | .hunt last =>
    let now := (last ++ [b]).drop (last.length + 1 - 16)
    if syncFound now then (.header [], []) else (.hunt now, [])
  | .header bits =>
    let now := bits ++ [b]
    if now.length < 32 then (.header now, [])
    else if Limits.framePayload < field (bytesOfBits now) 3 1 then (.header now, [.frameError .long])
    else (.body now, [])
  | .body bits =>
    let now := bits ++ [b]
    if now.length < (field (bytesOfBits now) 3 1 + 6) * 8 then (.body now, [])
    else (.body now, [endedFrame (bytesOfBits now)])

/-- A bit time with no mid-bit transition (R12): before sync the search restarts, after it the frame ends. -/
def LineRx.violation : LineRx → LineRx × List Instr
  | .waitQuiet => (.waitQuiet, [])
  | .hunt _ => (.hunt [], [])
  | .header bits => (.header bits, [.frameError .codeViolation])
  | .body bits => (.body bits, [.frameError .codeViolation])

/-- What the bit clock finds in 2 µs (R1): nothing, a mid-bit transition with its bit, or none where one is due. -/
inductive LineEvent where
  | nothing
  | bit (b : Bool)
  | missing
  deriving DecidableEq, Repr

/-- The bit clock over 2 µs in which TLR goes from `before` to `now` (R1): a transition one bit time after the last mid-bit
transition is the next, high to low for a 1; a transition half a bit time after it stands at the boundary of two bits. The
first transition starts the clock: the frame's first bit, 1, comes on a line that reads high. DESIGN CHOICE (log 33): "one bit
time" is within a quarter of it. -/
def bitClock (clock : Option Nat) (before now : Bool) : Option Nat × LineEvent :=
  match clock with
  | none => if before = now then (none, .nothing) else (some 0, .bit before)
  | some n =>
    if before ≠ now ∧ Limits.midBitEarly ≤ n + 1 then (some 0, .bit before)
    else if Limits.midBitLate ≤ n + 1 then (none, .missing)
    else (some (n + 1), .nothing)

/-- The receiver at what the bit clock finds (R12). -/
def LineRx.take (rx : LineRx) : LineEvent → LineRx × List Instr
  | .nothing => (rx, [])
  | .bit b => rx.takeBit b
  | .missing => rx.violation

/-- The line receiver with its bit clock and the level that TLR last read. -/
structure LineEar where
  rx : LineRx
  bitTicks : Option Nat
  level : Bool
  deriving DecidableEq, Repr

/-- 2 µs of the line receiver, in which TLR comes to read `now` (R1, R12). -/
def LineEar.take (ear : LineEar) (now : Bool) : LineEar × List Instr :=
  let clocked := bitClock ear.bitTicks ear.level now
  let heard := ear.rx.take clocked.2
  (⟨heard.1, clocked.1, now⟩, heard.2)

/-- A receiver over inputs one after another, with the commands they give. -/
def takeAll {ρ α : Type} (take : ρ → α → ρ × List Instr) : ρ → List α → ρ × List Instr
  | rx, [] => (rx, [])
  | rx, a :: rest =>
    let one := take rx a
    let more := takeAll take one.1 rest
    (more.1, one.2 ++ more.2)

/-- Sync has been found and no status given (R12). -/
def LineRx.inFrame : LineRx → Bool
  | .waitQuiet | .hunt _ => false
  | .header _ | .body _ => true

/-! ### The field port receiver (R181, R182) -/

/-- A byte from its ten levels, start bit low, least significant bit first; with it whether the stop bit is high (R181). -/
def readSerial (levels : List Bool) : Option (Byte × Bool) :=
  match levels with
  | [false, b0, b1, b2, b3, b4, b5, b6, b7, stop] => some (byteOfBits [b7, b6, b5, b4, b3, b2, b1, b0], stop)
  | _ => none

/-- The record of a kind of Table 2-4 as its command. -/
def RecordKind.command (k : RecordKind) (p : List Byte) : Instr :=
  match k with
  | .configure => .configure p
  | .statusRequest => .statusRequest p
  | .clear => .clear p
  | .clearFresh => .clearFresh p
  | .restart => .restart p
  | .vehicle => .vehicle p
  | .weight => .weight p
  | .withdraw => .withdraw p
  | .assign => .assign p
  | .disarm => .disarm p
  | .analysis => .analysis p
  | .dayEnd => .dayEnd p
  | .read => .read p
  | .release => .release p

/-- The inbound kinds (Table 2-4). -/
def RecordKind.all : List RecordKind :=
  [.configure, .statusRequest, .clear, .clearFresh, .restart, .vehicle, .weight, .withdraw, .assign, .disarm, .analysis,
    .dayEnd, .read, .release]

/-- The command of a complete record (R183, R184 step 1): bad checksum, a known kind, or an unknown one. -/
def recordCommand (kind : Byte) (p : List Byte) (sum : Byte) : Instr :=
  if ([kind, BitVec.ofNat 8 p.length] ++ p ++ [sum]).foldl (· + ·) 0 ≠ (0 : Byte) then .recordChecksumError kind
  else
    match RecordKind.all.find? fun k => k.byte == kind with
    | some k => k.command p
    | none => .recordUnknownKind kind

/-- From KIND to CHECK (R182). -/
def FieldRx.inRecord : FieldRx → Bool
  | .stopped | .hunt => false
  | .kind | .length _ | .payload _ _ _ | .check _ _ => true

/-- A byte with its stop bit high (R182): "a length above 60 discards the record". -/
def FieldRx.takeByte (rx : FieldRx) (b : Byte) : FieldRx × List Instr :=
  match rx with
  | .stopped => (.stopped, [])
  | .hunt => (if b = 0xA5 then .kind else .hunt, [])
  | .kind => (.length b, [])
  | .length code =>
    if Limits.recordPayload < b.toNat then (.length code, [.recordDiscard])
    else if b = 0 then (.check code [], [])
    else (.payload code b.toNat [], [])
  | .payload code n taken =>
    let now := taken ++ [b]
    if now.length < n then (.payload code n now, []) else (.check code now, [])
  | .check code p => (.hunt, [recordCommand code p b])

/-- A byte whose stop bit reads low: "Inside a record it discards the record. While the receiver hunts it is ignored"
(R181). -/
def FieldRx.framingError (rx : FieldRx) : FieldRx × List Instr := (rx, if rx.inRecord then [.recordDiscard] else [])

/-- A byte, with whether its stop bit is high (R181). -/
def FieldRx.take (rx : FieldRx) (b : Byte) (stop : Bool) : FieldRx × List Instr :=
  if stop then rx.takeByte b else rx.framingError

/-- The next byte on RXD: lost uncounted in POWER-UP (R35) and in the hold (R187), and else taken, the gap starting anew
(R182). Levels that are no byte are nothing. -/
def takeSerialByte (levels : List Bool) (s : State) : State :=
  match readSerial levels with
  | some (b, stop) =>
    if fieldPortTakes s then
      let heard := s.fp.rx.take b stop
      { s.setFp { s.fp with rx := heard.1, gapTicks := 0 } with pending := s.pending ++ heard.2 }
    else s
  | none => s

/-! ### The wires in time -/

/-- The line 2 µs on (section 1.1, R2, R12): TLR reads what the part and the others then drive. A transition is a LINE_ACTIVE,
and the receiver takes the level, but in the own SENDING and MARK: "the receiver takes no frame", and the own transitions
hold the quiet timer by themselves (log 23). -/
def tickLine (s : State) : State :=
  let s1 := s.setWires { s.wires with line := s.wires.line.tick }
  let now := lineReads s1
  let s2 := s1.setWires { s1.wires with tlr := now }
  if s.li.tx = .sending ∨ s.li.tx = .mark then s2
  else
    let heard := LineEar.take ⟨s.li.rx, s.li.bitTicks, s.wires.tlr⟩ now
    let s3 := s2.setLi { s.li with rx := heard.1.rx, bitTicks := heard.1.bitTicks }
    { s3 with pending := s.pending ++ (if s.wires.tlr = now then [] else [.lineActive]) ++ heard.2 }

/-- The bytes to come, 2 µs later. -/
def nearer : List SerialByte → List SerialByte
  | [] => []
  | b :: rest => { b with wait := b.wait - 1 } :: rest

/-- RXD over 2 µs: a byte that has come is taken now, and the next one comes nearer. -/
def tickSerial (s : State) : State :=
  match s.wires.rxd with
  | [] => s
  | b :: rest =>
    if b.wait = 0 then takeSerialByte b.levels (s.setWires { s.wires with rxd := nearer rest })
    else s.setWires { s.wires with rxd := nearer (b :: rest) }

end Sys2Proof.Machine
end

