-- ==== Sys2Proof/Machine/Inputs.lean ====
section
/-! DEFINITION. The pulse and contact inputs in time: the 20 ms for which a new level of TIPPING and RUN holds steady (R78,
R90), the 0.5 ms for which FLOW stays high (R120), and the rising edges of STEP (R86) and FLOW. -/

namespace Sys2Proof.Machine

/-- 2 µs of a contact's steady count: "The part takes a change of its level only after the new level has held steady for
20 ms. A change that reverses within 20 ms is not taken" (R78). -/
def steadyTicks (taken active : Bool) (n : Nat) : Nat := if active = taken then 0 else bump Limits.contactTicks n

/-- The inputs are taken in RUN only (R37, R39, R40, R78): TIPPING at TIP, RUN and FLOW at MILL (R90, R120). Both contacts are
active low. -/
def countInputs (s : State) : State :=
  if runsAs .tip s then
    s.setTu { s.tu with tipSteady := steadyTicks s.tu.tipLevel (!s.wires.tipping.level) s.tu.tipSteady }
  else if runsAs .mill s then
    let s1 := s.setCc { s.cc with runSteady := steadyTicks s.cc.runLevel (!s.wires.run.level) s.cc.runSteady }
    s1.setJa { s.ja with flowTicks := if s.wires.flow.level then s.ja.flowTicks.map (bump Limits.flowTicks) else none }
  else s

/-- A level goes from low to high. -/
def rises (before after : Wave) : Bool := !before.level && after.level

/-- The input pins 2 µs on. A rising edge of STEP is a STEP_PULSE with DIR as it then reads (R86), at TIP and MILL in RUN
(R85). A rising edge of FLOW starts its count, at MILL in RUN (R120). -/
def tickInputs (s : State) : State :=
  let w := s.wires
  let after := { w with
    tipping := w.tipping.tick, run := w.run.tick, flow := w.flow.tick, stepPin := w.stepPin.tick, dir := w.dir.tick }
  let s1 := s.setWires after
  let s2 := if runsAs .mill s && rises w.flow after.flow then s1.setJa { s.ja with flowTicks := some 0 } else s1
  { s2 with
    pending := s.pending ++ (if carrierRuns s && rises w.stepPin after.stepPin then [.stepPulse after.dir.level] else []) }

end Sys2Proof.Machine
end

