-- ==== Sys2Proof/Machine/Assembler.lean ====
section
/-! DEFINITION. The record assembler of LAB (08_consignment_closing_and_the_record_store.md): the assembly table, closing
and its figures, the ready list and the record store, and the day-end exchange, with the meanings of ANALYSIS, DAY-END,
READ, RELEASE and the laboratory's timer expiries. -/

namespace Sys2Proof.Machine

/-! ### Keys in the table and in the store (R146) -/

/-- The key of a closed record, if it is a consignment record. -/
def closedKey : Closed → Option Key
  | .cons r => some r.key
  | .day _ => none

/-- "Key in the record store" (R146). -/
def keyStored (k : Key) (s : State) : Bool := s.ra.store.any fun c => closedKey c == some k

/-- The assembly entry of a key: "a key appears at most once" (R146). -/
def findAsm (k : Key) (s : State) : Option AsmEntry := s.ra.table.find? (·.key = k)

/-- "Key in a READY entry" (R146). -/
def keyReady (k : Key) (s : State) : Bool := (findAsm k s).any (·.closed.isSome)

/-- The key's record is stored or its entry is READY: an item for it is late (R146, R150). -/
def keyLate (k : Key) (s : State) : Bool := keyStored k s || keyReady k s

/-- A new OPEN entry: every field absent, SYNTHETIC from the key (R145). -/
def newEntry (k : Key) : AsmEntry where
  key := k
  gross := none
  net := none
  m := none
  parts := []
  crushed := 0
  creditedMeasured := 0
  creditedEstimated := 0
  flags := { LotFlags.clear with synthetic := k.synthetic }
  analysis := none
  reanalysed := false
  ageMs := 0
  completionMs := none
  closed := none

/-- The entry of an entry's key replaced; an entry of a new key joins at the end. -/
def putEntry (e : AsmEntry) (table : List AsmEntry) : List AsmEntry :=
  if table.any (·.key = e.key) then table.map fun x => if x.key = e.key then e else x else table ++ [e]

/-- Replaces the assembly table. -/
def setTable (t : List AsmEntry) (s : State) : State := s.setRa { s.ra with table := t }

/-! ### The figures of a closed record (R155 to R158) -/

/-- Purity, in tenths of a percent, limited to 1,000; 0 when brix is 0 (R157). -/
def purity (a : Analysis) : Nat := if a.brix = 0 then 0 else min (a.pol * 1000 / a.brix) Limits.purity

/-- Sucrose in kg (R157). -/
def sucrose (juice : Nat) (a : Analysis) : Nat := juice * a.pol / 10000

/-- A per-tonne figure; 0 when the mass basis is 0 (R158). -/
def perTonne (x basis : Nat) : Nat := if basis = 0 then 0 else x * 1000 / basis

/-- The mass basis: the net, or the crushed sum without one (R156). -/
def massBasis (e : AsmEntry) : Nat :=
  match e.net with
  | some n => n.net
  | none => e.crushed

/-- The juice: the credited-measured sum plus the credited-estimated sum (R156). -/
def entryJuice (e : AsmEntry) : Nat := e.creditedMeasured + e.creditedEstimated

/-- Every part number from 1 to m is in the parts received (R154). -/
def partsComplete (e : AsmEntry) : Bool :=
  match e.m with
  | some m => (List.range m).all fun i => e.parts.contains (i + 1)
  | none => false

/-- PARTS-MISSING: m is absent or the parts received are fewer than m (R155). -/
def partsMissing (e : AsmEntry) : Bool :=
  match e.m with
  | some m => decide (e.parts.length < m)
  | none => true

/-- The record flags of a closing (R155, R156 to R158). -/
def closeFlags (cause : CloseCause) (e : AsmEntry) : RecordFlags where
  noAnalysis := cause != .complete && e.analysis.isNone
  noNet := cause != .complete && e.net.isNone
  partsMissing := cause != .complete && partsMissing e
  millBasis := e.net.isNone
  brixZero := e.analysis.any fun a => a.brix == 0
  basisZero := massBasis e == 0
  reanalysed := e.reanalysed

/-- The analysis group of a record (R157, R158). -/
def analysisFigures (e : AsmEntry) (a : Analysis) : AnalysisFigures where
  brix := a.brix
  pol := a.pol
  purity := purity a
  sucrose := sucrose (entryJuice e) a
  sucrosePerTonne := perTonne (sucrose (entryJuice e) a) (massBasis e)

/-- The closed record of an entry (R155 to R158). -/
def closeRecord (cause : CloseCause) (e : AsmEntry) : ConsRecord where
  key := e.key
  cause := cause
  flags := closeFlags cause e
  lotFlags := e.flags
  gross := e.gross
  net := e.net
  massBasis := massBasis e
  m := e.m.getD 0
  parts := e.parts.length
  crushed := e.crushed
  creditedMeasured := e.creditedMeasured
  creditedEstimated := e.creditedEstimated
  juice := entryJuice e
  juicePerTonne := perTonne (entryJuice e) (massBasis e)
  analysis := e.analysis.map (analysisFigures e)

/-- The day totals after a closing (R166). -/
def DayTotals.count (r : ConsRecord) (t : DayTotals) : DayTotals where
  records := bump Limits.sat16 t.records
  netSum := min (t.netSum + (r.net.map (·.net)).getD 0) Limits.sum32
  juiceSum := min (t.juiceSum + r.juice) Limits.sum32
  sucroseSum := min (t.sucroseSum + (r.analysis.map (·.sucrose)).getD 0) Limits.sum32

/-! ### The ready list and the record store (R159, R160) -/

/-- One item enters the store at the newest end; a READY entry leaves the assembly table; the record that brings the
store to 256 starts STORE-FULL (R159, R160). -/
def enterStore (c : Closed) (s : State) : State :=
  let s1 := s.setRa { s.ra with
    store := s.ra.store ++ [c]
    table := match closedKey c with
      | some k => s.ra.table.filter (·.key ≠ k)
      | none => s.ra.table }
  if s1.ra.store.length = Limits.store then conditionStarts .storeFull s1 else s1

/-- The items of a ready list enter in order while the store holds fewer than 256; the others wait (R159). -/
def enterWhileRoom : List Closed → State → State
  | [], s => s.setRa { s.ra with ready := [] }
  | c :: rest, s =>
    if s.ra.store.length < Limits.store then enterWhileRoom rest (enterStore c s)
    else s.setRa { s.ra with ready := c :: rest }

/-- The moves made at each closing, at each day record made and at each RELEASE (R159). -/
def moveReady (s : State) : State := enterWhileRoom s.ra.ready s

/-- An item becomes ready: it joins the tail of the ready list, which is then moved (R155, R159, R165). -/
def makeReady (c : Closed) (s : State) : State := moveReady (s.setRa { s.ra with ready := s.ra.ready ++ [c] })

/-- An entry closes (R155): its record is made and counted, the entry becomes READY and joins the ready list. -/
def closeEntry (cause : CloseCause) (e : AsmEntry) (s : State) : State :=
  let r := closeRecord cause e
  makeReady (.cons r) (s.setRa { s.ra with
    table := putEntry { e with closed := some r } s.ra.table
    totals := s.ra.totals.count r })

/-- "m is present, every part number from 1 to m is in its parts received, its net group is present and its analysis is
present" (R154). -/
def entryComplete (e : AsmEntry) : Bool := partsComplete e && e.net.isSome && e.analysis.isSome

/-- An item applied: the entry is kept as changed, and a complete one closes at once (R154). -/
def applied (e : AsmEntry) (s : State) : State :=
  let s1 := setTable (putEntry e s.ra.table) s
  if entryComplete e then closeEntry .complete e s1 else s1

/-! ### Notices at LAB (R146 to R149) -/

/-- What a notice makes of an OPEN entry: none when it is ignored and counted. -/
abbrev EntryChange := AsmEntry → Option AsmEntry

/-- A change applied to an OPEN entry, or the notice counted as malformed (R148, R149). -/
def applyTo (f : EntryChange) (e : AsmEntry) (s : State) : State :=
  match f e with
  | some e' => applied e' s
  | none => countMalformed s

/-- A notice decided by its key (R146): late, applied to its OPEN entry, applied to a new entry, or turned away. -/
def labApply (k : Key) (f : EntryChange) (s : State) : State :=
  if keyStored k s then countMalformed s
  else
    match findAsm k s with
    | some e => if e.closed.isSome then countMalformed s else applyTo f e s
    | none =>
      if s.ra.table.length < Limits.assembly then applyTo f (newEntry k) (setTable (s.ra.table ++ [newEntry k]) s)
      else countMalformed s

/-- A GROSS fills an absent gross group, and otherwise changes nothing (R147). -/
def withGross (n : GrossNotice) (e : AsmEntry) : AsmEntry :=
  { e with gross := e.gross.or (some ⟨n.plate, n.grower, n.gross⟩) }

/-- A NET fills the net group, and the gross group when it is absent; a second NET is turned away (R148). -/
def withNet (n : NetNotice) (e : AsmEntry) : Option AsmEntry :=
  if e.net.isSome then none
  else some { e with net := some ⟨n.tare, n.net, n.basis⟩, gross := e.gross.or (some ⟨n.plate, n.grower, n.gross⟩) }

/-- A LOT-CRUSHED is taken as one received part, unless its m differs or its part is already received (R149). -/
def withPart (n : LotCrushedNotice) (e : AsmEntry) : Option AsmEntry :=
  if e.m.any (· ≠ n.lot.m) || e.parts.contains n.lot.k then none
  else some { e with
    m := some n.lot.m
    parts := e.parts ++ [n.lot.k]
    crushed := e.crushed + n.crushed
    creditedMeasured := e.creditedMeasured + n.creditedMeasured
    creditedEstimated := e.creditedEstimated + n.creditedEstimated
    flags := e.flags.or n.flags
    completionMs := if e.m.isNone then some 0 else e.completionMs }

/-- A well-formed GROSS at LAB (R146, R147). -/
def takeGrossAtLab (n : GrossNotice) (s : State) : State := labApply n.key (fun e => some (withGross n e)) s

/-- A well-formed NET at LAB (R146, R148). -/
def takeNetAtLab (n : NetNotice) (s : State) : State := labApply n.key (withNet n) s

/-- A well-formed LOT-CRUSHED at LAB (R146, R149). -/
def takeLotCrushed (n : LotCrushedNotice) (s : State) : State := labApply n.lot.key (withPart n) s

/-! ### ANALYSIS (R150, R151) -/

/-- The key of an ANALYSIS: bit 0 of its key-flags byte is SYNTHETIC (Table 2-5). -/
def analysisKey (p : List Byte) : Key := readKey p 0 (bitOf 0 (field p 4 1))

/-- Brix and pol of an ANALYSIS (Table 2-5). -/
def readAnalysis (p : List Byte) : Analysis := ⟨field p 5 2, field p 7 2⟩

/-- The ranges of R150 step 3. -/
def analysisInRange (p : List Byte) : Bool :=
  (analysisKey p).seq != 0 && ((analysisKey p).synthetic || (analysisKey p).day != 0) &&
  decide ((readAnalysis p).brix ≤ 3000) && decide ((readAnalysis p).pol ≤ 2500) &&
  decide ((readAnalysis p).pol ≤ (readAnalysis p).brix)

/-- The entry after an ANALYSIS: a second one replaces brix and pol and sets REANALYSED (R151). -/
def withAnalysis (a : Analysis) (e : AsmEntry) : AsmEntry :=
  { e with analysis := some a, reanalysed := e.reanalysed || e.analysis.isSome }

/-- An ANALYSIS that passed every check (R151). -/
def takeAnalysis (k : Key) (a : Analysis) (s : State) : State :=
  applied (withAnalysis a ((findAsm k s).getD (newEntry k))) s

/-- The owning rule of ANALYSIS (R150, steps 3 to 5). -/
def ownAnalysis (p : List Byte) (s : State) : State :=
  let k := analysisKey p
  if !analysisInRange p then replyTo .analysis .outOfRange s
  else if keyLate k s then replyTo .analysis .late s
  else if (findAsm k s).isNone ∧ Limits.assembly ≤ s.ra.table.length then replyTo .analysis .full s
  else replyTo .analysis .accepted (takeAnalysis k (readAnalysis p) s)

/-- ANALYSIS (R150). -/
def execAnalysis (p : List Byte) (s : State) : Host.Outcome State Fault Refusal :=
  .next (decideRecord .analysis p (ownAnalysis p) s)

/-! ### READ and RELEASE (R161, R162) -/

/-- The answer that carries a closed record (R161, R34). -/
def recordItem : Closed → OutItem
  | .cons r => .consignmentRecord r
  | .day r => .dayRecord r

/-- The owning rule of READ: EMPTY with nothing unread, BUSY with fewer than two free places, else the oldest unread record
and ACCEPTED (R161, R186). -/
def ownRead (s : State) : State :=
  match s.ra.store[s.ra.readCount]? with
  | none => replyTo .read .empty s
  | some c =>
    if Limits.eventPlaces ≤ s.fp.out.length then replyTo .read .busy s
    else replyTo .read .accepted (place (recordItem c) (s.setRa { s.ra with readCount := s.ra.readCount + 1 }))

/-- READ (R161). -/
def execRead (p : List Byte) (s : State) : Host.Outcome State Fault Refusal := .next (decideRecord .read p ownRead s)

/-- STORE-FULL decided after a RELEASE (R160). -/
def decideStoreFull (s : State) : State :=
  if s.ra.store.length < Limits.store then conditionEnds .storeFull s else s

/-- The `n` oldest records freed; the waiting items enter, then STORE-FULL is decided (R162). -/
def takeRelease (n : Nat) (s : State) : State :=
  decideStoreFull (moveReady (s.setRa { s.ra with store := s.ra.store.drop n, readCount := s.ra.readCount - n }))

/-- The owning rule of RELEASE (R162). -/
def ownRelease (p : List Byte) (s : State) : State :=
  if s.ra.readCount < field p 0 2 then replyTo .release .outOfRange s
  else replyTo .release .accepted (takeRelease (field p 0 2) s)

/-- RELEASE (R162). -/
def execRelease (p : List Byte) (s : State) : Host.Outcome State Fault Refusal :=
  .next (decideRecord .release p (ownRelease p) s)

/-! ### The day-end exchange (R163 to R165) -/

/-- A day record waits in the ready list (R163). -/
def dayRecordWaits (s : State) : Bool := s.ra.ready.any fun c => closedKey c == none

/-- A DAY-END record taken (R164): the notice, the totals, the new day, the wait. -/
def takeDayEndRecord (s : State) : State :=
  let closing := s.part.day
  let s1 := offer (.dayEnd ⟨closing, nextDay closing⟩) none s
  let s2 := adoptDay (nextDay closing) (s1.setRa { s1.ra with totals := .zero })
  s2.setRa { s2.ra with wait := some ⟨closing, s.ra.totals, 0⟩ }

/-- The owning rule of the DAY-END record (R163, R164). -/
def ownDayEnd (s : State) : State :=
  if s.ra.wait.isSome || dayRecordWaits s then replyTo .dayEnd .busy s
  else replyTo .dayEnd .accepted (takeDayEndRecord s)

/-- DAY-END, the field record (R163, R164). -/
def execDayEnd (p : List Byte) (s : State) : Host.Outcome State Fault Refusal :=
  .next (decideRecord .dayEnd p ownDayEnd s)

/-- The wait ends: its day record, with or without the MILL's counters, becomes ready (R165). -/
def endWait (w : SummaryWait) (mill : Option MillCounters) (s : State) : State :=
  makeReady (.day ⟨w.day, w.totals, mill⟩) (s.setRa { s.ra with wait := none })

/-- A well-formed DAY-SUMMARY at LAB: it ends the wait for its day, and is otherwise ignored (R165). -/
def takeDaySummary (n : DaySummary) (s : State) : State :=
  match s.ra.wait with
  | some w => if w.day = n.day then endWait w (some n.counters) s else s
  | none => s

/-- SUMMARY_WAIT_EXPIRY (R165): the record is marked MILL-ABSENT. -/
def execSummaryWaitExpiry (s : State) : Host.Outcome State Fault Refusal :=
  if runsAs .lab s then
    match s.ra.wait with
    | some w => .next (endWait w none s)
    | none => .next s
  else .next s

/-! ### The entry timers (R152, R153) -/

/-- COMPLETION_TIMER_EXPIRY (R152): an OPEN entry whose completion timer runs closes LAPSED. -/
def execCompletionTimerExpiry (key : Key) (s : State) : Host.Outcome State Fault Refusal :=
  if runsAs .lab s then
    match findAsm key s with
    | some e => if e.closed = none ∧ e.completionMs ≠ none then .next (closeEntry .lapsed e s) else .next s
    | none => .next s
  else .next s

/-- NOT_CRUSHED_AGE_EXPIRY (R153): an OPEN entry closes NOT-CRUSHED if its parts received are still empty. -/
def execNotCrushedAgeExpiry (key : Key) (s : State) : Host.Outcome State Fault Refusal :=
  if runsAs .lab s then
    match findAsm key s with
    | some e => if e.closed = none ∧ e.parts = [] then .next (closeEntry .notCrushed e s) else .next s
    | none => .next s
  else .next s

end Sys2Proof.Machine
end

