-- ==== Sys2Proof/Machine/Line.lean ====
section
/-! DEFINITION. The tally line at this station (01_the_tally_line.md): the quiet detector, the transmitter from attempt to
backoff, frame errors, the beacon timer and the peer timers, each with the meaning of its command. -/

namespace Sys2Proof.Machine

/-- A transition on TLR: ACTIVE, and the 320 µs timer restarts (R2). -/
def LineInterface.active (li : LineInterface) : LineInterface := { li with quiet := .active, quietTicks := 0 }

/-- The receiver takes frames: not in WAIT-QUIET, where "Bits that follow the CRC before the line goes quiet are not read
and give no status", not while the own transmitter is in SENDING or MARK (R12), nor while RESETN holds the part (R35,
log 8). -/
def receiverTakes (s : State) : Bool :=
  !s.part.resetLow && s.li.rx != .waitQuiet && s.li.tx != .sending && s.li.tx != .mark

/-- The receiver when the line goes quiet: WAIT-QUIET begins to hunt, and "the line going quiet, before sync restarts the
preamble search". In HEADER and BODY the return to QUIET gives the status SHORT, which FRAME_ERROR brings (R12). -/
def LineRx.quiet : LineRx → LineRx
  | .waitQuiet | .hunt _ => .hunt []
  | .header bits => .header bits
  | .body bits => .body bits

/-- LINE_QUIET: the detector enters QUIET, and the receiver hunts (R2, R12). -/
def execLineQuiet (s : State) : Host.Outcome State Fault Refusal :=
  if s.part.resetLow then .next s
  else
    .next (s.setLi { s.li with
      quiet := .quiet, quietTicks := Limits.quietTicks, rx := s.li.rx.quiet, bitTicks := none })

/-- LINE_ACTIVE: "Every transition seen on TLR sets ACTIVE and restarts the timer" (R2). -/
def execLineActive (s : State) : Host.Outcome State Fault Refusal :=
  if s.part.resetLow then .next s else .next (s.setLi s.li.active)

/-! ### Building the frame (R4) -/

/-- The payload of a beacon, sampled at the start of the attempt (R17, R32). -/
def beaconNow (started : Bool) (s : State) : Beacon where
  config := s.part.stationState == .config
  started := started
  debtSaturated := (mon s .reverseOverrun).active
  day := s.part.day
  summary := BitVec.ofNat 16 s.mu.summary
  queueDepth := s.li.queue.length
  speed := if s.part.role = some .tip ∨ s.part.role = some .mill then s.cc.speed else Limits.stopped

/-- A queued notice with its live fields: a TIP takes its two age counters, its AGE-SATURATED mark and the attempt field
afresh (R4, R82, R84). -/
def QueueEntry.live (e : QueueEntry) (attempt : Nat) : Notice :=
  match e.notice, e.ages with
  | .tip n, some a =>
    .tip { n with ageStart := a.ageStart, ageEnd := a.ageEnd, attempt := attempt
                  flags := { n.flags with ageSaturated := a.saturated } }
  | n, _ => n

/-- The attempt field: the consecutive collision count plus 1, limited to 255 (R4). -/
def attemptNumber (s : State) : Nat := min (s.li.collisions + 1) 255

/-- Header and payload of the frame in hand, as they stand at the start of an attempt (R4, R14, R17). -/
def bodyInHand (s : State) : Option (List Byte) :=
  let body := frameBody s.part.station ((s.part.role.map roleCode).getD 0) s.part.fresh
  match s.li.inHand with
  | some .startedBeacon => some (body 1 255 (beaconNow true s).payload)
  | some .regularBeacon => some (body 1 s.li.lastSeq (beaconNow false s).payload)
  | some .queueHead =>
    match s.li.queue with
    | e :: _ => some (body e.notice.kind.code e.seq (e.live (attemptNumber s)).payload)
    | [] => none
  | none => none

/-- The queue once the head's first attempt has begun: the mark that makes it immune to WITHDRAW (R4). -/
def markBegun : List QueueEntry → List QueueEntry
  | e :: rest => { e with begun := true } :: rest
  | [] => []

/-- The station may begin an attempt: in RUN, WAITING, the line QUIET and no backoff slots left (R3). -/
def mayAttempt (s : State) : Bool :=
  s.part.stationState == .run && s.li.tx == .waiting && s.li.quiet == .quiet && s.li.slotsLeft == 0

/-- ATTEMPT_START: the frame is built and driven (R3, R4); its own transitions make the line ACTIVE (R2). -/
def execAttemptStart (s : State) : Host.Outcome State Fault Refusal :=
  if mayAttempt s then
    match bodyInHand s with
    | some body =>
      .next (s.setLi { s.li.active with
        tx := .sending, frame := frameBytes body, txTicks := 0
        queue := if s.li.inHand = some .queueHead then markBegun s.li.queue else s.li.queue })
    | none => .next s
  else .next s

/-! ### Completion, collision, backoff (R6 to R9) -/

/-- What completion means for the frame that was in hand: a queued notice leaves the queue, with SENT if its report flag
is set; a started beacon is marked sent and the 2 s interval starts (R6). -/
def completeFrame (f : Option InHand) (s : State) : State :=
  match f with
  | some .queueHead =>
    match s.li.queue with
    | e :: rest =>
      let s1 := s.setLi { s.li with queue := rest }
      if e.report then emit (.sent e.notice.kind e.notice.name) s1 else s1
    | [] => s
  | some .startedBeacon => s.setLi { s.li with startedSent := true, beaconTimer := some Limits.beaconMs }
  | some .regularBeacon => s
  | none => s

/-- The part's own frame or mark has ended: its last transition restarts the quiet timer, and the receiver waits for
quiet (R6, R12). -/
def ownFrameEnds (s : State) : State := s.setLi { s.li.active with rx := .waitQuiet }

/-- ATTEMPT_COMPLETE (R6): the collision count clears and LINE-CONGESTION ends, the notice leaves the queue, SENT is
emitted, and the next frame is taken in hand (R3). -/
def execAttemptComplete (s : State) : Host.Outcome State Fault Refusal :=
  if s.li.tx = .sending then
    .next (takeQueueHead (completeFrame s.li.inHand (dropFrame (ownFrameEnds s))))
  else .next s

/-- COLLISION (R7): the frame is abandoned, the mark is driven and the collision counted; at 8 in a row LINE-CONGESTION
starts (R9). -/
def execCollision (s : State) : Host.Outcome State Fault Refusal :=
  if s.li.tx = .sending then
    let n := bump Limits.collisionCount s.li.collisions
    let s1 := (ownFrameEnds s).setLi { (ownFrameEnds s).li with
      tx := .mark, frame := [], txTicks := 0, collisions := n
      counters := { s.li.counters with collisions := bump Limits.sat16 s.li.counters.collisions } }
    .next (if Limits.congestion ≤ n then conditionStarts .lineCongestion s1 else s1)
  else .next s

/-- "For the frame's n-th consecutive collision the number of slots is 1 + station number + 16 × min(n − 1, 3)" (R7). -/
def backoffSlots (station n : Nat) : Nat := 1 + station + 16 * min (n - 1) 3

/-- COLLISION_MARK_END (R7): the line is released and the transmitter enters BACKOFF with its slots. -/
def execCollisionMarkEnd (s : State) : Host.Outcome State Fault Refusal :=
  if s.li.tx = .mark then
    .next (s.setLi { s.li.active with
      tx := .backoff, txTicks := 0, partSlot := 0, slotsLeft := backoffSlots s.part.station.val s.li.collisions })
  else .next s

/-- BACKOFF_END (R8): back to WAITING with no slots left; a regular beacon is abandoned if a notice has joined the queue. -/
def execBackoffEnd (s : State) : Host.Outcome State Fault Refusal :=
  if s.li.tx = .backoff then
    if s.li.inHand = some .regularBeacon ∧ s.li.queue ≠ [] then .next (takeQueueHead (dropFrame s))
    else .next (s.setLi { s.li with tx := .waiting, slotsLeft := 0, partSlot := 0 })
  else .next s

/-! ### Frame errors (R12, R13) -/

/-- "Each status other than GOOD increases its own counter by 1" (R13). -/
def LineCounters.countError (c : LineCounters) : FrameError → LineCounters
  | .crcError => { c with crcError := bump Limits.sat16 c.crcError }
  | .short => { c with short := bump Limits.sat16 c.short }
  | .long => { c with long := bump Limits.sat16 c.long }
  | .codeViolation => { c with codeViolation := bump Limits.sat16 c.codeViolation }

/-- The line after a frame ended with this status: SHORT is given by the return to QUIET, so the receiver hunts at once;
CRC-ERROR and LONG come with a bit, whose mid-bit transition restarts the quiet timer; CODE-VIOLATION comes with a transition
that is missing, so a timer that runs goes on (R2, R12, log 9). -/
def LineInterface.afterError (li : LineInterface) : FrameError → LineInterface
  | .short => { li with quiet := .quiet, quietTicks := Limits.quietTicks, rx := .hunt [], bitTicks := none }
  | .crcError | .long => { li.active with rx := .waitQuiet }
  | .codeViolation =>
    { li with quiet := .active, quietTicks := if li.quiet = .active then li.quietTicks else 0, rx := .waitQuiet }

/-- FRAME_ERROR (R12, R13): counted in every station state, and the frame is discarded. -/
def execFrameError (status : FrameError) (s : State) : Host.Outcome State Fault Refusal :=
  if receiverTakes s then
    .next (s.setLi { s.li.afterError status with counters := s.li.counters.countError status })
  else .next s

/-! ### Beacon and peer timers (R16 to R18) -/

/-- STARTED_BEACON_DUE (R17): the started beacon is taken in hand. The timer then waits for its completion. -/
def execStartedBeaconDue (s : State) : Host.Outcome State Fault Refusal :=
  if s.part.stationState = .run ∧ s.li.startedSent = false ∧ s.li.tx = .idle then
    .next (takeInHand .startedBeacon (s.setLi { s.li with beaconTimer := none }))
  else .next s

/-- REGULAR_BEACON_DUE (R17): the timer restarts at 2 s; the beacon is taken in hand only with an empty queue and an IDLE
transmitter, and is otherwise skipped. -/
def execRegularBeaconDue (s : State) : Host.Outcome State Fault Refusal :=
  if s.part.stationState = .run ∧ s.li.startedSent = true then
    let s1 := s.setLi { s.li with beaconTimer := some Limits.beaconMs }
    .next (if s.li.queue = [] ∧ s.li.tx = .idle then takeInHand .regularBeacon s1 else s1)
  else .next s

/-- The silence timers run in CONFIG and RUN (R16). -/
def peerTimersRun (s : State) : Bool := s.part.stationState == .config || s.part.stationState == .run

/-- PEER_SILENCE_EXPIRY (R16): a HEARD entry becomes SILENT, and PEER-SILENT is decided again (R18). -/
def execPeerSilenceExpiry (n : StationNo) (s : State) : Host.Outcome State Fault Refusal :=
  if peerTimersRun s ∧ (peer s n).state = .heard then
    .next (reportPeerSilent (setPeer n { peer s n with state := .silent, sinceMs := silenceMs s } s))
  else .next s

/-- PEER_ABSENCE_TIMEOUT (R18): at least 10 s have passed since the station entered RUN. -/
def execPeerAbsenceTimeout (s : State) : Host.Outcome State Fault Refusal :=
  if s.part.stationState = .run then
    .next (reportPeerSilent (s.setPt { s.pt with runMs := Limits.runMs }))
  else .next s

end Sys2Proof.Machine
end

