-- ==== Sys2Proof/Machine/WeighUnit.lean ====
section
/-! DEFINITION. The weigh unit (04_weighbridge_stations.md): vehicles, readings, captures, the open consignment table and
its expiries, with the meanings of VEHICLE, WEIGHT and OPEN_ENTRY_EXPIRY. -/

namespace Sys2Proof.Machine

/-! ### Keying a vehicle (R48, R49) -/

/-- The vehicle of a VEHICLE record: a grower at ENTRY only (Table 2-5, R48). -/
def readVehicle (role : Option Role) (p : List Byte) : Vehicle where
  plate := p.take 8
  grower := if role = some .entry then some (field p 8 2) else none

/-- A VEHICLE taken: the vehicle in hand is cancelled, and the new one is in hand in ARMED (R49). -/
def takeVehicle (v : Vehicle) (s : State) : State :=
  let s1 :=
    match s.wu.vehicle with
    | some old => emit (.cancelled old.plate) s
    | none => s
  s1.setWu { s1.wu with capture := .armed, vehicle := some v, runCount := 0, runCentre := none }

/-- The owning rule of VEHICLE (R48, steps 3 to 5). -/
def ownVehicle (p : List Byte) (s : State) : State :=
  let v := readVehicle s.part.role p
  if !(v.plate.all plateChar) || v.grower == some 0 then replyTo .vehicle .outOfRange s
  else if s.part.role = some .entry ∧ s.part.day = 0 then replyTo .vehicle .dayUnknown s
  else if (mon s .scaleOver).effective then replyTo .vehicle .busy s
  else replyTo .vehicle .accepted (takeVehicle v s)

/-- VEHICLE (R48). -/
def execVehicle (p : List Byte) (s : State) : Host.Outcome State Fault Refusal :=
  .next (decideRecord .vehicle p (ownVehicle p) s)

/-! ### Captures (R55, R60, R63 to R65) -/

/-- An ENTRY capture: the key is made, the sequence advances and a GROSS is offered (R59, R60). -/
def grossCapture (mass : Nat) (v : Vehicle) (s : State) : State :=
  let key : Key := ⟨s.part.day, s.part.station, s.wu.consSeq, false⟩
  offer (.gross ⟨key, v.plate, v.grower.getD 0, mass⟩) none
    (s.setWu { s.wu with consSeq := nextSeq s.wu.consSeq })

/-- The NET of an open entry with this tare and basis (R64, R67). -/
def netNotice (e : OpenEntry) (tare : Nat) (basis : Basis) : NetNotice where
  key := e.key
  plate := e.plate
  grower := e.grower
  gross := e.gross
  tare := tare
  net := netOf e.gross tare
  basis := basis
  tareExceeds := decide (e.gross < tare)

/-- The entry leaves the open consignment table; the entries behind it keep their order (R63). -/
def removeOpen (key : Key) (s : State) : State :=
  s.setWu { s.wu with openTable := s.wu.openTable.filter (·.key ≠ key) }

/-- An EXIT capture: the oldest open entry with the plate is matched, or the tare is unmatched; then the tare is written
(R63 to R65, R69). -/
def tareCapture (mass : Nat) (v : Vehicle) (s : State) : State :=
  let s1 :=
    match s.wu.openTable.find? (·.plate = v.plate) with
    | some e => removeOpen e.key (offer (.net (netNotice e mass .weighed)) none s)
    | none => emit (.unmatchedTare v.plate mass) s
  s1.setWu { s1.wu with tares := tareWrite v.plate mass s1.wu.tares }

/-- A completed capture: CAPTURED, the machine in IDLE with zero-seen clear, then the role's handling (R55, R50). -/
def completeCapture (mass : Nat) (s : State) : State :=
  let s1 := emit (.captured mass) (s.setWu { s.wu with
    capture := .idle, vehicle := none, runCount := 0, runCentre := none, zeroSeen := false })
  match s.wu.vehicle with
  | some v => if s.part.role = some .entry then grossCapture mass v s1 else tareCapture mass v s1
  | none => s1

/-! ### Readings (R50 to R57) -/

/-- A reading: a weight and the indicator's status (R50). -/
structure Reading where
  weight : Int
  status : Nat
  deriving DecidableEq, Repr

/-- The reading of a WEIGHT record (Table 2-5). -/
def readWeight (p : List Byte) : Reading := ⟨signedField p 0 3, field p 3 1⟩

/-- The ranges of R50. -/
def Reading.inRange (r : Reading) : Bool :=
  decide (-99999 ≤ r.weight) && decide (r.weight ≤ 199999) && decide (r.status ≤ 3)

/-- The four classes (R51). -/
inductive ReadingClass where
  | over | zero | load | other
  deriving DecidableEq, Repr

/-- The class of a reading, tested in the order of R51. Status codes: 0 OK, 1 MOTION, 2 OVER, 3 ERROR (Table 2-5). -/
def Reading.classify (c : WeighSettings) (r : Reading) : ReadingClass :=
  if r.status = 2 ∨ r.status = 3 ∨ (c.capacity : Int) < r.weight then .over
  else if r.status = 0 ∧ -(c.zeroBand : Int) ≤ r.weight ∧ r.weight ≤ c.zeroBand then .zero
  else if r.status = 0 ∧ (c.minLoad : Int) ≤ r.weight then .load
  else .other

/-- A reading that counts in a run around `centre` (R54). -/
def Reading.inBand (c : WeighSettings) (centre : Int) (r : Reading) : Bool :=
  decide (r.status = 0) && decide (r.weight ≤ centre + c.band) && decide (centre - c.band ≤ r.weight) &&
  decide ((c.zeroBand : Int) < r.weight) && decide (r.weight ≤ c.capacity)

/-- A run starts from a load reading (R53, R54). -/
def startRun (r : Reading) (s : State) : State :=
  s.setWu { s.wu with capture := .settling, runCount := 1, runCentre := some r.weight }

/-- The capture machine takes a reading, by its state (R53 to R55). -/
def captureStep (r : Reading) (s : State) : State :=
  let c := weighCfg s
  match s.wu.capture with
  | .idle => s
  | .armed => if r.classify c = .load ∧ s.wu.zeroSeen = true then startRun r s else s
  | .settling =>
    if r.inBand c (s.wu.runCentre.getD r.weight) then
      if c.stableCount ≤ s.wu.runCount + 1 then completeCapture r.weight.toNat s
      else s.setWu { s.wu with runCount := s.wu.runCount + 1 }
    else if r.classify c = .load then startRun r s
    else s.setWu { s.wu with capture := .armed, runCount := 0, runCentre := none }

/-- SCALE-OVER takes a reading: an over reading is an observation, any other a contrary one, and an OK reading within
capacity ends it in RECOVER and WARN (R56, R57). -/
def scaleOverStep (r : Reading) (s : State) : State :=
  if r.classify (weighCfg s) = .over then observe .scaleOver s
  else
    let s1 := observeContrary .scaleOver s
    if r.status = 0 then endingEvent .scaleOver s1 else s1

/-- "A zero reading sets zero-seen, in every capture state" (R52). -/
def zeroStep (r : Reading) (s : State) : State :=
  if r.classify (weighCfg s) = .zero then s.setWu { s.wu with zeroSeen := true } else s

/-- A reading applied: zero-seen, then the capture machine, then SCALE-OVER, whose MONITOR event follows the capture's
events (R50). -/
def takeReading (r : Reading) (s : State) : State := scaleOverStep r (captureStep r (zeroStep r s))

/-- The owning rule of WEIGHT (R50). -/
def ownWeight (p : List Byte) (s : State) : State :=
  if (readWeight p).inRange then replyTo .weight .accepted (takeReading (readWeight p) s)
  else replyTo .weight .outOfRange s

/-- WEIGHT (R50). -/
def execWeight (p : List Byte) (s : State) : Host.Outcome State Fault Refusal :=
  .next (decideRecord .weight p (ownWeight p) s)

/-! ### The open consignment table (R61, R62, R66, R67) -/

/-- An expiry: the tare of the vehicle tare table with basis ESTIMATED, or the default tare; the NET is offered and the
entry leaves (R66, R67). -/
def expireOpen (e : OpenEntry) (s : State) : State :=
  let found := tareLookup e.plate s.wu.tares
  let n := netNotice e (found.getD (exitCfg s).defaultTare) (if found.isSome then .estimated else .defaulted)
  removeOpen e.key (offer (.net n) none (s.setWu { s.wu with tares := tareUsed e.plate s.wu.tares }))

/-- A new open entry joins at the newest end (R61). -/
def joinOpen (n : GrossNotice) (s : State) : State :=
  s.setWu { s.wu with openTable := s.wu.openTable ++ [⟨n.key, n.plate, n.grower, n.gross, 0⟩] }

/-- A well-formed GROSS at EXIT: a duplicate key is ignored and counted; a full table expires its oldest first (R61, R62). -/
def takeGrossAtExit (n : GrossNotice) (s : State) : State :=
  if s.wu.openTable.any (·.key = n.key) then countMalformed s
  else if Limits.openTable ≤ s.wu.openTable.length then
    match s.wu.openTable.head? with
    | some e => joinOpen n (expireOpen e s)
    | none => joinOpen n s
  else joinOpen n s

/-- OPEN_ENTRY_EXPIRY (R66): the entry with this key is expired and removed. -/
def execOpenEntryExpiry (key : Key) (s : State) : Host.Outcome State Fault Refusal :=
  if runsAs .exit s then
    match s.wu.openTable.find? (·.key = key) with
    | some e => .next (expireOpen e s)
    | none => .next s
  else .next s

end Sys2Proof.Machine
end

