-- ==== Sys2Proof/Machine/Receive.lean ====
section
/-! DEFINITION. A GOOD frame from end to end (R12, R13, R15, R19, R20, R24, R25): source, duplicate checks, peer table,
notice checks, day adoption (R45) and the role units, with the meanings of the eight RECEIVE commands. -/

namespace Sys2Proof.Machine

/-- A GOOD frame has ended: its bits made the line ACTIVE, and the receiver waits for quiet (R2, R12, log 9). -/
def frameTaken (s : State) : State := s.setLi { s.li.active with rx := .waitQuiet }

/-- "A GOOD frame whose source role code is not 1 to 5 increases the bad-source counter" (R13, log 13). -/
def countBadSource (s : State) : State :=
  setCounters { s.li.counters with badSource := bump Limits.sat16 s.li.counters.badSource } s

/-- An unknown kind (R25 step 1). -/
def countUnknownKind (s : State) : State :=
  setCounters { s.li.counters with unknownKind := bump Limits.sat16 s.li.counters.unknownKind } s

/-- "a well-formed beacon whose source role is LAB": a day of 1 to 65535 is adopted at every role but LAB (R45, R46). -/
def takeBeacon (sender : Role) (b : Beacon) (s : State) : State :=
  if s.part.role ≠ some .lab ∧ sender = .lab ∧ b.day ≠ 0 then adoptDay b.day s else s

/-- A well-formed DAY-END: day adoption at every role but LAB, in CONFIG and RUN (R45); MILL in RUN then samples and
zeroes its day counters (R116, R143). -/
def takeDayEndNotice (n : DayEndNotice) (s : State) : State :=
  let s1 := if s.part.role = some .lab then s else adoptDay n.newDay s
  if runsAs .mill s then takeDayEndAtMill n s1 else s1

/-- A well-formed GROSS, by role (R24). -/
def takeGross (n : GrossNotice) (s : State) : State :=
  if runsAs .exit s then takeGrossAtExit n s
  else if runsAs .tip s then takeGrossAtTip n s
  else if runsAs .lab s then takeGrossAtLab n s
  else s

/-- A well-formed NET, by role (R24). -/
def takeNet (n : NetNotice) (s : State) : State :=
  if runsAs .tip s then takeNetAtTip n s
  else if runsAs .mill s then takeNetAtMill n s
  else if runsAs .lab s then takeNetAtLab n s
  else s

/-- A well-formed notice handed to the units that act on its kind (R24); in CONFIG only day adoption is performed. -/
def actOn (sender : Role) (r : Received) (s : State) : State :=
  match r with
  | .beacon b => takeBeacon sender b s
  | .notice (.gross n) => takeGross n s
  | .notice (.net n) => takeNet n s
  | .notice (.tip n) => if runsAs .mill s then takeTip n s else s
  | .notice (.lotCrushed n) => if runsAs .lab s then takeLotCrushed n s else s
  | .notice (.dayEnd n) => takeDayEndNotice n s
  | .notice (.daySummary n) => if runsAs .lab s then takeDaySummary n s else s

/-- The checks of R25, and the notice acted on when it passes them. -/
def checkNotice (h : FrameHeader) (sender : Role) (kind : Nat) (p : List Byte) (s : State) : State :=
  if !knownKind kind then countUnknownKind s
  else
    match readNotice kind h.station sender p with
    | some r => actOn sender r s
    | none => countMalformed s

/-- "A station of role MILL or LAB ... whose source role code equals its own role from another station number", the own
number the higher (R20). -/
def duplicateRole (h : FrameHeader) (sender : Role) (s : State) : Bool :=
  (sender == .mill || sender == .lab) && s.part.role == some sender && decide (h.station < s.part.station)

/-- The source station's peer entry updated, and PEER-SILENT decided again (R15, R18). -/
def tableUpdated (h : FrameHeader) (sender : Role) (kind : Nat) (p : List Byte) (s : State) : State :=
  reportPeerSilent (setPeer h.station ((peer s h.station).afterFrame sender h kind p) s)

/-- A frame past the duplicate-station check: the peer table is updated (log 14), a duplicate role mutes (R20), and the
notice is checked. -/
def acceptFrame (h : FrameHeader) (sender : Role) (kind : Nat) (p : List Byte) (s : State) : State :=
  let s1 := tableUpdated h sender kind p s
  if duplicateRole h sender s1 then enterMute .duplicateRole s1 else checkNotice h sender kind p s1

/-- A GOOD frame by station state (R13): nothing is passed on in POWER-UP and MUTE; in RUN the own station number mutes
(R19). -/
def passFrame (h : FrameHeader) (sender : Role) (kind : Nat) (p : List Byte) (s : State) : State :=
  match s.part.stationState with
  | .powerUp => s
  | .mute => s
  | .config => acceptFrame h sender kind p s
  | .run => if h.station = s.part.station then enterMute .duplicateStation s else acceptFrame h sender kind p s

/-- A GOOD frame of kind `kind` (R12, R13). It is not taken while the own transmitter is in SENDING or MARK. -/
def receive (h : FrameHeader) (kind : Nat) (p : List Byte) (s : State) : State :=
  if receiverTakes s then
    match roleOfCode h.roleCode.val with
    | some sender => passFrame h sender kind p (frameTaken s)
    | none => countBadSource (frameTaken s)
  else s

/-- RECEIVE_BEACON (R15, R32, R45). -/
def execReceiveBeacon (h : FrameHeader) (p : List Byte) (s : State) : Host.Outcome State Fault Refusal :=
  .next (receive h 1 p s)

/-- RECEIVE_GROSS (R24, R26). -/
def execReceiveGross (h : FrameHeader) (p : List Byte) (s : State) : Host.Outcome State Fault Refusal :=
  .next (receive h 2 p s)

/-- RECEIVE_NET (R24, R27). -/
def execReceiveNet (h : FrameHeader) (p : List Byte) (s : State) : Host.Outcome State Fault Refusal :=
  .next (receive h 3 p s)

/-- RECEIVE_TIP (R97, R28). -/
def execReceiveTip (h : FrameHeader) (p : List Byte) (s : State) : Host.Outcome State Fault Refusal :=
  .next (receive h 4 p s)

/-- RECEIVE_LOT_CRUSHED (R149, R29). -/
def execReceiveLotCrushed (h : FrameHeader) (p : List Byte) (s : State) : Host.Outcome State Fault Refusal :=
  .next (receive h 5 p s)

/-- RECEIVE_DAY_END (R30, R45). -/
def execReceiveDayEnd (h : FrameHeader) (p : List Byte) (s : State) : Host.Outcome State Fault Refusal :=
  .next (receive h 6 p s)

/-- RECEIVE_DAY_SUMMARY (R165, R31). -/
def execReceiveDaySummary (h : FrameHeader) (p : List Byte) (s : State) : Host.Outcome State Fault Refusal :=
  .next (receive h 7 p s)

/-- RECEIVE_UNKNOWN_KIND (R25). -/
def execReceiveUnknownKind (h : FrameHeader) (kind : Byte) (p : List Byte) (s : State) :
    Host.Outcome State Fault Refusal := .next (receive h kind.toNat p s)

end Sys2Proof.Machine
end

