-- ==== Sys2Proof/Machine/Clock.lean ====
section
/-! DEFINITION. The timebase (log 2): what 2 µs do to the counts of the part, and the timer commands that have fallen due.
A step on an empty queue puts what is due into the queue, or, when nothing is, lets 2 µs pass. -/

namespace Sys2Proof.Machine

/-! ### Counting -/

/-- One tick of the line interface: the quiet timer (R2), the attempt or mark (R1, R7), and the backoff slots, counted only
while the line is QUIET (R8). The own frame's transitions hold the quiet timer at its start (R2). -/
def LineInterface.tick (li : LineInterface) : LineInterface :=
  let li1 :=
    if li.tx = .sending then { li with quietTicks := 0 }
    else if li.quiet = .active then { li with quietTicks := bump Limits.quietTicks li.quietTicks }
    else li
  match li.tx with
  | .sending | .mark => { li1 with txTicks := li1.txTicks + 1 }
  | .backoff =>
    if li1.quiet = .quiet then
      if Limits.slotTicks ≤ li1.partSlot + 1 then { li1 with partSlot := 0, slotsLeft := li1.slotsLeft - 1 }
      else { li1 with partSlot := li1.partSlot + 1 }
    else li1
  | .idle | .waiting => li1

/-- One tick of the field port: the item being sent (R181), and the gap after a byte of a record (R182). -/
def FieldPort.tick (fp : FieldPort) : FieldPort :=
  { fp with
    outTicks := if fp.out = [] then fp.outTicks else fp.outTicks + 1
    gapTicks := if fp.rx.inRecord then bump (Limits.gapTicks + 1) fp.gapTicks else fp.gapTicks }

/-- One cycle of the 4,000 Hz reference: a running speed measurement, or else the quiet interval count (R89, R91). -/
def countCycle (s : State) : State :=
  if carrierRuns s then
    match s.cc.measure with
    | some m => s.setCc { s.cc with measure := some { m with cycles := bump Limits.stopped m.cycles } }
    | none =>
      if stallWatched s then s.setCc { s.cc with quietCycles := bump Limits.stopped s.cc.quietCycles } else s
  else s

/-- One millisecond of a peer entry: HEARD entries count up to the silence period (R16). -/
def PeerEntry.ms (period : Nat) (e : PeerEntry) : PeerEntry :=
  if e.state = .heard then { e with sinceMs := bump period e.sinceMs } else e

/-- One millisecond of an assembly entry: the timers of a READY entry have stopped (R152, R153, R155). -/
def AsmEntry.ms (c : LabSettings) (e : AsmEntry) : AsmEntry :=
  if e.closed.isSome then e
  else { e with
    ageMs := bump (c.notCrushedHours * Limits.hourMs) e.ageMs
    completionMs := e.completionMs.map (bump (c.completionMinutes * Limits.minuteMs)) }

/-- One millisecond of the juice attributor: running or paused time (R122, R124). -/
def JuiceAttributor.ms (periodMs : Nat) (ja : JuiceAttributor) : JuiceAttributor :=
  if ja.isOpen then
    if ja.isPaused then { ja with pausedMs := bump Limits.pauseMs ja.pausedMs }
    else { ja with runningMs := bump periodMs ja.runningMs }
  else ja

/-- One millisecond of the role units, in RUN (R66, R73, R80, R91, R122, R124, R152, R153, R165). -/
def countRoleMs (s : State) : State :=
  match s.part.role with
  | some .exit =>
    let limit := (exitCfg s).openAgeHours * Limits.hourMs
    s.setWu { s.wu with openTable := s.wu.openTable.map fun e => { e with ageMs := bump limit e.ageMs } }
  | some .tip =>
    s.setTu { s.tu with
      awaiting := s.tu.awaiting.map fun e => { e with ageMs := bump Limits.awaitingMs e.ageMs }
      minTipMs := if s.tu.session = .tipping then bump ((tipCfg s).minTipHalves * 500) s.tu.minTipMs else s.tu.minTipMs }
  | some .mill =>
    let s1 := s.setJa (s.ja.ms ((millCfg s).periodSeconds * 1000))
    if s.cc.withholding then
      s1.setCc { s1.cc with allowanceMs := bump ((millCfg s).allowanceHalves * 500) s1.cc.allowanceMs }
    else s1
  | some .lab =>
    s.setRa { s.ra with
      table := s.ra.table.map (AsmEntry.ms (labCfg s))
      wait := s.ra.wait.map fun w => { w with timerMs := bump Limits.summaryMs w.timerMs } }
  | some .entry | none => s

/-- One millisecond of the part: POWER-UP (R35), the peer timers in CONFIG and RUN (R16), and in RUN the 10 s measure
(R18), the beacon timer (R17) and the role units. -/
def countMs (s : State) : State :=
  match s.part.stationState with
  | .powerUp => s.setPart { s.part with powerUpMs := bump Limits.powerUpMs s.part.powerUpMs }
  | .mute => s
  | .config => s.setPt { s.pt with peers := mapTable (PeerEntry.ms (silenceMs s)) s.pt.peers }
  | .run =>
    let s1 := s.setPt ⟨mapTable (PeerEntry.ms (silenceMs s)) s.pt.peers, bump Limits.runMs s.pt.runMs⟩
    countRoleMs (s1.setLi { s1.li with beaconTimer := s1.li.beaconTimer.map (· - 1) })

/-- Every count of the part moves on by 2 µs: the line, the field port, the inputs, and the millisecond and the cycle when
they are full. The millisecond and the reference cycle are counted from the tick (Numbers
and units). -/
def count (s : State) : State :=
  let s1 := s.setLi s.li.tick
  let s2 := if s.part.stationState = .powerUp then s1 else s1.setFp s1.fp.tick
  let s3 := if Limits.ticksPerMs ≤ s.clock.inMs + 1 then countMs (countInputs s2) else countInputs s2
  let s4 := if Limits.ticksPerCycle ≤ s.clock.inCycle + 1 then countCycle s3 else s3
  s4.setClock {
    inMs := if Limits.ticksPerMs ≤ s.clock.inMs + 1 then 0 else s.clock.inMs + 1
    inCycle := if Limits.ticksPerCycle ≤ s.clock.inCycle + 1 then 0 else s.clock.inCycle + 1 }

/-- 2 µs pass (log 35): a byte that has come on RXD is taken, the counts move on, and then the levels of the pins do. -/
def advance (s : State) : State := tickLine (tickInputs (count (tickSerial s)))

/-! ### What has fallen due -/

/-- A command when its condition holds. -/
def dueWhen (b : Bool) (i : Instr) : List Instr := if b then [i] else []

/-- The line's own timers (R2, R3, R6, R7, R8), the collision (R6, R7), and SHORT: "A return to QUIET before the header and length + 2 bytes have
all been taken" (R12). -/
def lineDue (s : State) : List Instr :=
  dueWhen (s.li.quiet == .active && decide (Limits.quietTicks ≤ s.li.quietTicks)) .lineQuiet ++
  dueWhen (s.li.quiet == .quiet && s.li.rx.inFrame && receiverTakes s) (.frameError .short) ++
  dueWhen (lineMismatch s) .collision ++
  dueWhen (s.li.tx == .sending && decide (s.li.frame.length * 16 * Limits.halfBitTicks ≤ s.li.txTicks)) .attemptComplete ++
  dueWhen (s.li.tx == .mark && decide (Limits.markTicks ≤ s.li.txTicks)) .collisionMarkEnd ++
  dueWhen (s.li.tx == .backoff && s.li.slotsLeft == 0) .backoffEnd ++
  dueWhen (mayAttempt s && (bodyInHand s).isSome) .attemptStart

/-- The beacon timer and the peer timers (R16 to R18). -/
def peerDue (s : State) : List Instr :=
  let running := s.part.stationState == .run
  let timeUp := running && s.li.beaconTimer == some 0
  dueWhen (timeUp && !s.li.startedSent && s.li.tx == .idle) .startedBeaconDue ++
  dueWhen (timeUp && s.li.startedSent) .regularBeaconDue ++
  ((List.finRange 16).filter fun n =>
      peerTimersRun s && (peer s n).state == .heard && decide (silenceMs s ≤ (peer s n).sinceMs)).map
    .peerSilenceExpiry ++
  dueWhen (decide (Limits.runMs ≤ s.pt.runMs) && peerSilentHolds s && !(mon s .peerSilent).active) .peerAbsenceTimeout

/-- The outbound item (R181, R185): 384 × ticks reach 100,000 × bytes when ten bit times a byte have passed. The gap in a
record: "more than 50 ms pass after a byte of the record is taken with no next byte taken" (R182). -/
def fieldPortDue (s : State) : List Instr :=
  (match s.fp.out with
    | it :: _ =>
      dueWhen (s.part.stationState != .powerUp && decide (it.wire.length * 100000 ≤ s.fp.outTicks * 384)) .outboundItemSent
    | [] => []) ++
  dueWhen (fieldPortTakes s && s.fp.rx.inRecord && decide (Limits.gapTicks < s.fp.gapTicks)) .recordGapTimeout

/-- The end of POWER-UP, with the straps as they read (R35, R36). -/
def powerUpDue (s : State) : List Instr :=
  dueWhen (s.part.stationState == .powerUp && decide (Limits.powerUpMs ≤ s.part.powerUpMs))
    (.powerUpEnd s.wires.straps.station s.wires.straps.roleA s.wires.straps.roleB)

/-- The timers and the inputs of the role units, in RUN. -/
def roleDue (s : State) : List Instr :=
  match s.part.role with
  | some .exit =>
    (s.wu.openTable.filter fun e => decide ((exitCfg s).openAgeHours * Limits.hourMs ≤ e.ageMs)).map
      fun e => .openEntryExpiry e.key
  | some .tip =>
    (s.tu.awaiting.filter fun e => decide (Limits.awaitingMs ≤ e.ageMs)).map (fun e => .awaitingEntryExpiry e.key) ++
    dueWhen (s.tu.session == .tipping && decide ((tipCfg s).minTipHalves * 500 ≤ s.tu.minTipMs)) .minTipTimeExpiry ++
    dueWhen (decide (Limits.contactTicks ≤ s.tu.tipSteady)) (if s.tu.tipLevel then .tippingRelease else .tippingActive) ++
    dueWhen (s.cc.measure.any fun m => decide (Limits.stopped ≤ m.cycles)) .speedSaturation
  | some .mill =>
    dueWhen (decide (Limits.contactTicks ≤ s.cc.runSteady))
      (if s.cc.runLevel then .runContactRelease else .runContactActive) ++
    dueWhen (s.ja.isOpen && s.ja.flowTicks.any fun n => decide (Limits.flowTicks ≤ n)) .flowPulse ++
    dueWhen (s.cc.measure.any fun m => decide (Limits.stopped ≤ m.cycles)) .speedSaturation ++
    dueWhen (stallWatched s && s.cc.measure.isNone && decide (Limits.stopped ≤ s.cc.quietCycles)) .stallQuietInterval ++
    dueWhen (s.cc.withholding && decide ((millCfg s).allowanceHalves * 500 ≤ s.cc.allowanceMs)) .startAllowanceExpiry ++
    dueWhen (s.ja.isOpen && !s.ja.isPaused && decide ((millCfg s).periodSeconds * 1000 ≤ s.ja.runningMs))
      .periodTimerExpiry ++
    dueWhen (s.ja.isOpen && s.ja.isPaused && decide (Limits.pauseMs ≤ s.ja.pausedMs)) .pauseLimitExpiry
  | some .lab =>
    (s.ra.table.filter fun e => e.closed.isNone &&
        e.completionMs.any fun t => decide ((labCfg s).completionMinutes * Limits.minuteMs ≤ t)).map
      (fun e => .completionTimerExpiry e.key) ++
    (s.ra.table.filter fun e => e.closed.isNone && e.parts.isEmpty &&
        decide ((labCfg s).notCrushedHours * Limits.hourMs ≤ e.ageMs)).map (fun e => .notCrushedAgeExpiry e.key) ++
    dueWhen (s.ra.wait.any fun w => decide (Limits.summaryMs ≤ w.timerMs)) .summaryWaitExpiry
  | some .entry | none => []

/-- Every timer command that has fallen due, in the order of log 3. -/
def due (s : State) : List Instr :=
  powerUpDue s ++ fieldPortDue s ++ lineDue s ++ peerDue s ++ (if s.part.stationState = .run then roleDue s else [])

/-- A step on an empty queue (log 2): nothing moves while RESETN is held low (R35, log 8); what is due is queued; and when
nothing is, 2 µs pass. -/
def tick (s : State) : State :=
  if s.part.resetLow then s
  else if due s = [] then advance s
  else { s with pending := s.pending ++ due s }

end Sys2Proof.Machine
end

