-- ==== Sys2Proof/Machine/Dispatch.lean ====
section
/-! DEFINITION. One arm for each command of spec/opcode_table.json. -/

namespace Sys2Proof.Machine

/-- The effect of a command on everything but the queue. -/
def exec (i : Instr) (s : State) : Host.Outcome State Fault Refusal :=
  match i with
  | .powerOn => Sys2Proof.Machine.execPowerOn s
  | .pinReset => Sys2Proof.Machine.execPinReset s
  | .powerUpEnd station roleA roleB => Sys2Proof.Machine.execPowerUpEnd station roleA roleB s
  | .lineQuiet => Sys2Proof.Machine.execLineQuiet s
  | .attemptStart => Sys2Proof.Machine.execAttemptStart s
  | .attemptComplete => Sys2Proof.Machine.execAttemptComplete s
  | .collision => Sys2Proof.Machine.execCollision s
  | .collisionMarkEnd => Sys2Proof.Machine.execCollisionMarkEnd s
  | .backoffEnd => Sys2Proof.Machine.execBackoffEnd s
  | .frameError status => Sys2Proof.Machine.execFrameError status s
  | .receiveBeacon header payload => Sys2Proof.Machine.execReceiveBeacon header payload s
  | .receiveGross header payload => Sys2Proof.Machine.execReceiveGross header payload s
  | .receiveNet header payload => Sys2Proof.Machine.execReceiveNet header payload s
  | .receiveTip header payload => Sys2Proof.Machine.execReceiveTip header payload s
  | .receiveLotCrushed header payload => Sys2Proof.Machine.execReceiveLotCrushed header payload s
  | .receiveDayEnd header payload => Sys2Proof.Machine.execReceiveDayEnd header payload s
  | .receiveDaySummary header payload => Sys2Proof.Machine.execReceiveDaySummary header payload s
  | .receiveUnknownKind header kind payload => Sys2Proof.Machine.execReceiveUnknownKind header kind payload s
  | .startedBeaconDue => Sys2Proof.Machine.execStartedBeaconDue s
  | .regularBeaconDue => Sys2Proof.Machine.execRegularBeaconDue s
  | .peerSilenceExpiry peer => Sys2Proof.Machine.execPeerSilenceExpiry peer s
  | .peerAbsenceTimeout => Sys2Proof.Machine.execPeerAbsenceTimeout s
  | .recordGapTimeout => Sys2Proof.Machine.execRecordGapTimeout s
  | .recordDiscard => Sys2Proof.Machine.execRecordDiscard s
  | .recordChecksumError kind => Sys2Proof.Machine.execRecordChecksumError kind s
  | .recordUnknownKind kind => Sys2Proof.Machine.execRecordUnknownKind kind s
  | .configure payload => Sys2Proof.Machine.execConfigure payload s
  | .statusRequest payload => Sys2Proof.Machine.execStatusRequest payload s
  | .clear payload => Sys2Proof.Machine.execClear payload s
  | .clearFresh payload => Sys2Proof.Machine.execClearFresh payload s
  | .restart payload => Sys2Proof.Machine.execRestart payload s
  | .vehicle payload => Sys2Proof.Machine.execVehicle payload s
  | .weight payload => Sys2Proof.Machine.execWeight payload s
  | .withdraw payload => Sys2Proof.Machine.execWithdraw payload s
  | .assign payload => Sys2Proof.Machine.execAssign payload s
  | .disarm payload => Sys2Proof.Machine.execDisarm payload s
  | .analysis payload => Sys2Proof.Machine.execAnalysis payload s
  | .dayEnd payload => Sys2Proof.Machine.execDayEnd payload s
  | .read payload => Sys2Proof.Machine.execRead payload s
  | .release payload => Sys2Proof.Machine.execRelease payload s
  | .outboundItemSent => Sys2Proof.Machine.execOutboundItemSent s
  | .openEntryExpiry key => Sys2Proof.Machine.execOpenEntryExpiry key s
  | .awaitingEntryExpiry key => Sys2Proof.Machine.execAwaitingEntryExpiry key s
  | .tippingActive => Sys2Proof.Machine.execTippingActive s
  | .minTipTimeExpiry => Sys2Proof.Machine.execMinTipTimeExpiry s
  | .tippingRelease => Sys2Proof.Machine.execTippingRelease s
  | .stepPulse forward => Sys2Proof.Machine.execStepPulse forward s
  | .speedSaturation => Sys2Proof.Machine.execSpeedSaturation s
  | .stallQuietInterval => Sys2Proof.Machine.execStallQuietInterval s
  | .runContactActive => Sys2Proof.Machine.execRunContactActive s
  | .runContactRelease => Sys2Proof.Machine.execRunContactRelease s
  | .startAllowanceExpiry => Sys2Proof.Machine.execStartAllowanceExpiry s
  | .flowPulse => Sys2Proof.Machine.execFlowPulse s
  | .periodTimerExpiry => Sys2Proof.Machine.execPeriodTimerExpiry s
  | .pauseLimitExpiry => Sys2Proof.Machine.execPauseLimitExpiry s
  | .completionTimerExpiry key => Sys2Proof.Machine.execCompletionTimerExpiry key s
  | .notCrushedAgeExpiry key => Sys2Proof.Machine.execNotCrushedAgeExpiry key s
  | .summaryWaitExpiry => Sys2Proof.Machine.execSummaryWaitExpiry s
  | .lineActive => Sys2Proof.Machine.execLineActive s
  | .resetnFall => Sys2Proof.Machine.execResetnFall s

end Sys2Proof.Machine
end

