-- ==== Sys2Proof/WellFormed.lean ====
section
/-! DEFINITION. Which commands the part's receivers can form: payloads within the lengths of R12 and R181, kinds that the
row's name leaves open (R25, R184), keys in range (R21). -/

namespace Sys2Proof

open Machine

/-- Every check of one command. -/
def wellFormed : Instr → Bool
  | .receiveBeacon _ p | .receiveGross _ p | .receiveNet _ p | .receiveTip _ p | .receiveLotCrushed _ p
  | .receiveDayEnd _ p | .receiveDaySummary _ p => decide (p.length ≤ Limits.framePayload)
  | .receiveUnknownKind _ kind p => decide (p.length ≤ Limits.framePayload) && !knownKind kind.toNat
  | .recordUnknownKind kind => !inboundCodes.contains kind.toNat
  | .configure p | .statusRequest p | .clear p | .clearFresh p | .restart p | .vehicle p | .weight p | .withdraw p
  | .assign p | .disarm p | .analysis p | .dayEnd p | .read p | .release p =>
    decide (p.length ≤ Limits.recordPayload)
  | .openEntryExpiry k | .awaitingEntryExpiry k | .completionTimerExpiry k | .notCrushedAgeExpiry k => keyOk k
  | .powerOn | .pinReset | .powerUpEnd _ _ _ | .lineQuiet | .attemptStart | .attemptComplete | .collision
  | .collisionMarkEnd | .backoffEnd | .frameError _ | .startedBeaconDue | .regularBeaconDue | .peerSilenceExpiry _
  | .peerAbsenceTimeout | .recordGapTimeout | .recordDiscard | .recordChecksumError _ | .outboundItemSent
  | .tippingActive | .minTipTimeExpiry | .tippingRelease | .stepPulse _ | .speedSaturation | .stallQuietInterval
  | .runContactActive | .runContactRelease | .startAllowanceExpiry | .flowPulse | .periodTimerExpiry
  | .pauseLimitExpiry | .summaryWaitExpiry | .lineActive | .resetnFall => true

end Sys2Proof
end

