-- ==== Sys2Proof/Safety.lean ====
section
/-! DEFINITION. What the claims speak of: the conditions under which a command acts, the balances and bounds the manual
gives the part as a whole, and which commands the manual lets change a piece of state. -/

namespace Sys2Proof.Machine

/-! ### When a command acts -/

/-- The station is in RUN with this role. -/
abbrev Works (r : Role) (s : State) : Prop := s.part.stationState = .run ∧ s.part.role = some r

/-- The field port takes records: not in POWER-UP (R35) and not in the hold of R187. -/
abbrev PortTakes (s : State) : Prop := s.part.stationState ≠ .powerUp ∧ s.fp.out.length < 16

/-- The receiver takes frames: RESETN is not held low, the receiver is past WAIT-QUIET and the own transmitter is not in
SENDING or MARK (R12). -/
abbrev Listens (s : State) : Prop :=
  s.part.resetLow = false ∧ s.li.rx ≠ .waitQuiet ∧ s.li.tx ≠ .sending ∧ s.li.tx ≠ .mark

/-- A frame that passes the duplicate checks of R19 and R20 at a station in CONFIG or RUN. -/
abbrev Passes (sender : Role) (h : FrameHeader) (s : State) : Prop :=
  Listens s ∧ h.roleCode.val = roleCode sender ∧
  (s.part.stationState = .config ∨ s.part.stationState = .run ∧ h.station ≠ s.part.station) ∧
  ¬((sender = .mill ∨ sender = .lab) ∧ s.part.role = some sender ∧ h.station < s.part.station)

/-- The state after the line and peer table parts of a frame (R12, R15, R18), which the notice checks then read. -/
def heard (sender : Role) (h : FrameHeader) (kind : Nat) (p : List Byte) (s : State) : State :=
  tableUpdated h sender kind p (frameTaken s)

/-- The field port after a record that gave a reply and nothing else (R183). -/
def repliedTo (k : RecordKind) (code : ReplyCode) (s : State) : FieldPort :=
  { s.fp with rx := .hunt, out := s.fp.out ++ [.reply (BitVec.ofNat 8 k.code) code 0] }

/-- The field port after a record that gave these events, in this order, and then its reply ACCEPTED (R183, R186). -/
def acceptedAfter (k : RecordKind) (events : List OutItem) (s : State) : FieldPort :=
  (place (.reply (BitVec.ofNat 8 k.code) .accepted 0) (events.foldl (fun t ev => emit ev t) (hunting s))).fp

/-- The state after a record's own rule left `u` and gave this reply, detail 0 (R183). -/
def answered (k : RecordKind) (code : ReplyCode) (u : State) : State :=
  { u with fp := { u.fp with out := u.fp.out ++ [.reply (BitVec.ofNat 8 k.code) code 0] } }

/-- The malformed-notice counter increased by 1 (R25). -/
def malformedCounted (s : State) : LineInterface :=
  { s.li with counters := { s.li.counters with malformed := min (s.li.counters.malformed + 1) 65535 } }

/-! ### The frames and records that the table names -/

/-- The eight receptions: header, kind code and payload of a GOOD frame. -/
def asFrame : Instr → Option (FrameHeader × Nat × List Byte)
  | .receiveBeacon h p => some (h, 1, p)
  | .receiveGross h p => some (h, 2, p)
  | .receiveNet h p => some (h, 3, p)
  | .receiveTip h p => some (h, 4, p)
  | .receiveLotCrushed h p => some (h, 5, p)
  | .receiveDayEnd h p => some (h, 6, p)
  | .receiveDaySummary h p => some (h, 7, p)
  | .receiveUnknownKind h kind p => some (h, kind.toNat, p)
  | _ => none

/-- The fourteen field records: kind and payload. -/
def asRecord : Instr → Option (RecordKind × List Byte)
  | .configure p => some (.configure, p)
  | .statusRequest p => some (.statusRequest, p)
  | .clear p => some (.clear, p)
  | .clearFresh p => some (.clearFresh, p)
  | .restart p => some (.restart, p)
  | .vehicle p => some (.vehicle, p)
  | .weight p => some (.weight, p)
  | .withdraw p => some (.withdraw, p)
  | .assign p => some (.assign, p)
  | .disarm p => some (.disarm, p)
  | .analysis p => some (.analysis, p)
  | .dayEnd p => some (.dayEnd, p)
  | .read p => some (.read, p)
  | .release p => some (.release, p)
  | _ => none

/-- The three resets (R35, R43). -/
def isReset : Instr → Bool
  | .powerOn | .pinReset | .resetnFall => true
  | _ => false

/-! ### Balances and bounds -/

/-- "cane entered + carried in + corrections = crushed + on carrier + written off", modulo 2^32 (R115). -/
abbrev CaneBalance (s : State) : Prop :=
  s.cl.entered + s.cl.carriedIn + s.cl.corrections =
    s.cl.crushed + BitVec.ofNat 32 (onCarrierMass s.cl.lots) + s.cl.writtenOff

/-- A lot that has left the mouth holds no mass (R94, R105). -/
abbrev DrainedLotsEmpty (s : State) : Prop := ∀ l ∈ s.cl.lots, l.state = .draining → l.massRem = 0

/-- "juice measured = juice credited as measured + juice unallocated", modulo 2^32 (R142). -/
abbrev JuiceBalance (s : State) : Prop := s.ja.measured = s.ja.creditedMeasured + s.ja.unallocated

/-- "A station in POWER-UP, CONFIG or MUTE transmits no frame" (R3), and holds none to transmit (R40, R43). -/
abbrev SilentOutsideRun (s : State) : Prop :=
  s.part.stationState ≠ .run → s.li.tx = .idle ∧ s.li.inHand = none ∧ s.li.queue = [] ∧ s.li.beaconTimer = none

/-- The queue and table capacities of R10, R185, R61, R68, R72, R95, R113, R106, R127, R146, R159, and "the read count" at
most the stored records (R144). -/
abbrev WithinCapacities (s : State) : Prop :=
  s.li.queue.length ≤ 8 ∧ s.fp.out.length ≤ 16 ∧ s.wu.openTable.length ≤ 64 ∧ s.wu.tares.length ≤ 128 ∧
  s.tu.awaiting.length ≤ 32 ∧ s.tu.tares.length ≤ 128 ∧ s.cl.lots.length ≤ 32 ∧ s.cl.pendingNets.length ≤ 16 ∧
  s.ja.shares.length ≤ 8 ∧ s.ja.ring.length ≤ 8 ∧ s.ra.table.length ≤ 48 ∧ s.ra.store.length ≤ 256 ∧
  s.ra.readCount ≤ s.ra.store.length

/-- The keys of the consignment records in a list of closed records. -/
abbrev recordKeys (l : List Closed) : List Key := l.filterMap closedKey

/-- Each table holds a key once: the open table (R61), the tare tables (R68), the awaiting table, which the armed key has left
(R72, R75), the lot list (R95), the pending nets (R113), the shares of a breakdown (R127); "Across the assembly table and the
record store, a key appears at most once" (R146), a READY entry being the one whose record waits in the ready list (R155,
R159); and at most one day record waits, none while a summary wait runs (R163, R165). -/
abbrev TablesDistinct (s : State) : Prop :=
  s.wu.openTable.Pairwise (fun a b => a.key ≠ b.key) ∧ s.wu.tares.Pairwise (fun a b => a.plate ≠ b.plate) ∧
  s.tu.awaiting.Pairwise (fun a b => a.key ≠ b.key) ∧ s.tu.tares.Pairwise (fun a b => a.plate ≠ b.plate) ∧
  (∀ e ∈ s.tu.awaiting, e.key.synthetic = false ∧ ∀ a, s.tu.arming = some a → a.key ≠ e.key) ∧
  s.cl.lots.Pairwise (fun a b => a.lot ≠ b.lot) ∧ s.cl.pendingNets.Pairwise (fun a b => a.key ≠ b.key) ∧
  s.ja.shares.Pairwise (fun a b => a.lot ≠ b.lot) ∧
  (∀ b ∈ s.ja.ring, b.shares.Pairwise fun x y => x.lot ≠ y.lot) ∧
  (s.ra.table.map (·.key) ++ recordKeys s.ra.store).Pairwise (fun a b => a ≠ b) ∧
  (recordKeys s.ra.ready).Pairwise (fun a b => a ≠ b) ∧
  (∀ k ∈ recordKeys s.ra.ready, ∃ e ∈ s.ra.table, e.key = k ∧ e.closed ≠ none) ∧
  (s.ra.ready.filter fun c => closedKey c = none).length + s.ra.wait.toList.length ≤ 1

/-- "A latched monitor is active" (R175), in LATCHED mode (R170), and "The count stops at the qualification" (R169). -/
abbrev MonitorsSound (s : State) : Prop :=
  ∀ i : MonitorId, ((mon s i).latched = true → (mon s i).active = true ∧ (mon s i).mode = some .latched) ∧
    (mon s i).count ≤ (mon s i).qual

/-- "The period is paused while CARRIER-STALL is active in LATCHED or RECOVER mode" (R123): in RUN, with a period open. -/
abbrev PauseFollowsStall (s : State) : Prop :=
  s.part.stationState = .run → s.ja.isPaused = (s.ja.isOpen && (mon s .carrierStall).effective)

/-! ### Notices in range (R26 to R31), as the sending station makes them -/

/-- Every field of a notice is one its kind's rule admits, sent from station `source`. -/
def noticeOk (source : StationNo) : Notice → Bool
  | .gross n => keyOk n.key && !n.key.synthetic && n.key.origin == source && plateOk n.plate &&
      within 1 65535 n.grower && decide (n.gross ≤ 120000)
  | .net n => keyOk n.key && !n.key.synthetic && plateOk n.plate && within 1 65535 n.grower &&
      decide (n.gross ≤ 120000) && decide (n.tare ≤ 120000) && n.net == n.gross - n.tare &&
      n.tareExceeds == decide (n.gross < n.tare)
  | .tip n => n.lot.ok && n.lot.key.synthetic == n.flags.synthetic && decide (n.mass ≤ 16777215) &&
      decide (n.ageStart ≤ 65535) && decide (n.ageEnd ≤ n.ageStart) && within 1 65535 n.distance && within 1 255 n.attempt
  | .lotCrushed n => n.lot.ok && n.lot.key.synthetic == n.flags.synthetic && decide (n.crushed ≤ 16777215) &&
      decide (n.creditedMeasured ≤ 16777215) && decide (n.creditedEstimated ≤ 16777215) &&
      decide (n.shareCount ≤ 65535) &&
      (n.cause == .crushed ||
        (n.crushed == 0 && n.creditedMeasured == 0 && n.creditedEstimated == 0 && n.shareCount == 0 && n.flags.notTracked))
  | .dayEnd n => within 1 65535 n.closing && n.newDay == nextDay n.closing
  | .daySummary n => within 1 65535 n.day && decide (n.counters.periods ≤ 65535) && decide (n.counters.forced ≤ 65535)

end Sys2Proof.Machine
end

