-- ==== Sys2Proof/Certificates/Slice0/Obligations.lean ====
section
/-! DEFINITION. The statements for the provers. Each names the rules of spec/ it rests on; OBLIGATIONS.json lists them. -/

open Sys2Proof Sys2Proof.Machine

/-! ### The part as a whole -/

/-- A step takes the command at the front of the queue and runs it with the queue's rest. -/
def Obligations.StepTakesTheFrontCommand : Prop :=
  ∀ (c : Instr) (rest : List Instr) (s : State),
    step { s with pending := c :: rest } = exec c { s with pending := rest }

/-- The model's choice for an empty queue and for the passing of time (logs 2, 3, 8, 29 and 35): nothing happens while RESETN
is low, else what is due is queued, else 2 µs pass: a byte that has come is taken, the counts move on, and then the levels of
the pins do. 500 of them are a millisecond, 125 a cycle of the 4,000 Hz reference. In 2 µs the quiet timer runs while the line
is ACTIVE, held at its start by the own frame (R2), the attempt and the mark count (R1, R7), the backoff slots of 768 µs count
only while the line is QUIET (R8), the item being sent and the gap after a byte of a record count but in POWER-UP (R181,
R182). A millisecond counts the 8 ms of POWER-UP (R35), the silence of HEARD peers in CONFIG and RUN and of none in MUTE
(R16), and in RUN the 10 s measure (R18), the beacon timer (R17), and the open table's, awaiting table's, tip, start
allowance, period, pause, age, completion and summary timers of the role's unit (R66, R73, R80, R91, R122, R124, R152, R153,
R165). A reference cycle counts in a running speed measurement, or in the quiet interval where stalls are watched (R89, R91).
In RUN the 20 ms of a new level of TIPPING at TIP and of RUN at MILL count while the pin differs from the taken level, and
start anew when it does not (R78, R90); the 0.5 ms of FLOW count while it stays high after a rising edge (R120), and a rising
edge of STEP is a STEP_PULSE with the level of DIR (R86). A timer's command is due exactly while its timer runs and its count
has reached its limit, POWER_UP_END with the straps as they read (R35, R36); COLLISION is due while a driven high half-bit
reads low (R6, R7, section 1.1). -/
def Obligations.IdleStepQueuesDueOrCounts : Prop :=
  (∀ s : State, s.pending = [] →
    step s = .next
      (if s.part.resetLow = true then s
       else if due s = [] then tickLine (tickInputs (count (tickSerial s)))
       else { s with pending := due s })) ∧
  (∀ s : State,
    let ms := 500 ≤ s.clock.inMs + 1
    let cycle := 125 ≤ s.clock.inCycle + 1
    let st := s.part.stationState
    let here (r : Role) : Prop := st = .run ∧ s.part.role = some r
    let works (r : Role) : Prop := ms ∧ here r
    let up (limit n : Nat) : Nat := min (n + 1) limit
    let slots := s.li.tx = .backoff ∧ s.li.quiet = .quiet
    let measures := cycle ∧ st = .run ∧ (s.part.role = some .tip ∨ s.part.role = some .mill)
    let watched := s.part.role = some .mill ∧ s.cc.runLevel = true ∧ s.cc.withholding = false
    count s = { s with
      part := { s.part with powerUpMs := if ms ∧ st = .powerUp then up 8 s.part.powerUpMs else s.part.powerUpMs }
      li := { s.li with
        quietTicks :=
          if s.li.tx = .sending then 0
          else if s.li.quiet = .active then up 160 s.li.quietTicks
          else s.li.quietTicks
        txTicks := if s.li.tx = .sending ∨ s.li.tx = .mark then s.li.txTicks + 1 else s.li.txTicks
        slotsLeft := if slots ∧ 384 ≤ s.li.partSlot + 1 then s.li.slotsLeft - 1 else s.li.slotsLeft
        partSlot :=
          if slots then (if 384 ≤ s.li.partSlot + 1 then 0 else s.li.partSlot + 1) else s.li.partSlot
        beaconTimer := if ms ∧ st = .run then s.li.beaconTimer.map (· - 1) else s.li.beaconTimer }
      pt :=
        ⟨if ms ∧ (st = .config ∨ st = .run) then
            mapTable (fun e => if e.state = .heard then { e with sinceMs := up (silenceMs s) e.sinceMs } else e) s.pt.peers
          else s.pt.peers,
          if ms ∧ st = .run then up 10000 s.pt.runMs else s.pt.runMs⟩
      wu :=
        if works .exit then
          { s.wu with openTable := s.wu.openTable.map fun e =>
            { e with ageMs := up ((exitCfg s).openAgeHours * 3600000) e.ageMs } }
        else s.wu
      tu := { s.tu with
        awaiting :=
          if works .tip then s.tu.awaiting.map fun e => { e with ageMs := up 86400000 e.ageMs } else s.tu.awaiting
        minTipMs :=
          if works .tip ∧ s.tu.session = .tipping then up ((tipCfg s).minTipHalves * 500) s.tu.minTipMs
          else s.tu.minTipMs
        tipSteady :=
          if here .tip then (if s.tu.tipLevel = !s.wires.tipping.level then 0 else up 10000 s.tu.tipSteady)
          else s.tu.tipSteady }
      cc := { s.cc with
        allowanceMs :=
          if works .mill ∧ s.cc.withholding = true then up ((millCfg s).allowanceHalves * 500) s.cc.allowanceMs
          else s.cc.allowanceMs
        measure := if measures then s.cc.measure.map fun m => { m with cycles := up 4095 m.cycles } else s.cc.measure
        quietCycles :=
          if measures ∧ s.cc.measure = none ∧ watched then up 4095 s.cc.quietCycles else s.cc.quietCycles
        runSteady :=
          if here .mill then (if s.cc.runLevel = !s.wires.run.level then 0 else up 10000 s.cc.runSteady)
          else s.cc.runSteady }
      ja := { s.ja with
        pausedMs :=
          if works .mill ∧ s.ja.isOpen = true ∧ s.ja.isPaused = true then up 600000 s.ja.pausedMs else s.ja.pausedMs
        runningMs :=
          if works .mill ∧ s.ja.isOpen = true ∧ s.ja.isPaused = false then
            up ((millCfg s).periodSeconds * 1000) s.ja.runningMs
          else s.ja.runningMs
        flowTicks :=
          if here .mill then (if s.wires.flow.level = true then s.ja.flowTicks.map (up 250) else none)
          else s.ja.flowTicks }
      ra :=
        if works .lab then
          { s.ra with
            table := s.ra.table.map fun e =>
              if e.closed = none then
                { e with
                  ageMs := up ((labCfg s).notCrushedHours * 3600000) e.ageMs
                  completionMs := e.completionMs.map (up ((labCfg s).completionMinutes * 60000)) }
              else e
            wait := s.ra.wait.map fun w => { w with timerMs := up 60000 w.timerMs } }
        else s.ra
      fp :=
        if st = .powerUp then s.fp
        else
          { s.fp with
            outTicks := if s.fp.out = [] then s.fp.outTicks else s.fp.outTicks + 1
            gapTicks := if s.fp.rx = .stopped ∨ s.fp.rx = .hunt then s.fp.gapTicks else up 25001 s.fp.gapTicks }
      clock := ⟨if ms then 0 else s.clock.inMs + 1, if cycle then 0 else s.clock.inCycle + 1⟩ }) ∧
  (∀ s : State,
    let w := s.wires
    let run := s.part.stationState = .run
    let flowRises := run ∧ s.part.role = some .mill ∧ w.flow.level = false ∧ w.flow.tick.level = true
    let steps := run ∧ (s.part.role = some .tip ∨ s.part.role = some .mill) ∧ w.stepPin.level = false ∧
      w.stepPin.tick.level = true
    tickInputs s = { s with
      ja := { s.ja with flowTicks := if flowRises then some 0 else s.ja.flowTicks }
      wires := { w with
        tipping := w.tipping.tick, run := w.run.tick, flow := w.flow.tick, stepPin := w.stepPin.tick, dir := w.dir.tick }
      pending := s.pending ++ if steps then [.stepPulse w.dir.tick.level] else [] }) ∧
  (∀ (level : Bool) (c : Change) (rest : List Change),
    (Wave.mk level []).tick = ⟨level, []⟩ ∧ (c.wait ≤ 1 → (Wave.mk level (c :: rest)).tick = ⟨c.level, rest⟩) ∧
    (1 < c.wait → (Wave.mk level (c :: rest)).tick = ⟨level, ⟨c.wait - 1, c.level⟩ :: rest⟩)) ∧
  ∀ (s : State) (c : Instr),
    let run := s.part.stationState = .run
    let table := s.ra.table
    c ∈ due s ↔
      match c with
      | .powerUpEnd n a b => s.part.stationState = .powerUp ∧ 8 ≤ s.part.powerUpMs ∧ s.wires.straps = ⟨n, a, b⟩
      | .outboundItemSent => s.part.stationState ≠ .powerUp ∧
          ∃ it rest, s.fp.out = it :: rest ∧ it.wire.length * 100000 ≤ s.fp.outTicks * 384
      | .recordGapTimeout => PortTakes s ∧ s.fp.rx ≠ .stopped ∧ s.fp.rx ≠ .hunt ∧ 25000 < s.fp.gapTicks
      | .lineQuiet => s.li.quiet = .active ∧ 160 ≤ s.li.quietTicks
      | .frameError e => e = .short ∧ s.li.quiet = .quiet ∧ Listens s ∧ ∀ last, s.li.rx ≠ .hunt last
      | .collision => s.li.tx = .sending ∧ lineLevel s = some true ∧ s.wires.line.level = false
      | .attemptComplete => s.li.tx = .sending ∧ s.li.frame.length * 64 ≤ s.li.txTicks
      | .collisionMarkEnd => s.li.tx = .mark ∧ 16 ≤ s.li.txTicks
      | .backoffEnd => s.li.tx = .backoff ∧ s.li.slotsLeft = 0
      | .attemptStart => run ∧ s.li.tx = .waiting ∧ s.li.quiet = .quiet ∧ s.li.slotsLeft = 0 ∧
          s.li.inHand ≠ none ∧ (s.li.inHand = some .queueHead → s.li.queue ≠ [])
      | .startedBeaconDue => run ∧ s.li.beaconTimer = some 0 ∧ s.li.startedSent = false ∧ s.li.tx = .idle
      | .regularBeaconDue => run ∧ s.li.beaconTimer = some 0 ∧ s.li.startedSent = true
      | .peerSilenceExpiry n => (s.part.stationState = .config ∨ run) ∧ (peer s n).state = .heard ∧
          silenceMs s ≤ (peer s n).sinceMs
      | .peerAbsenceTimeout => 10000 ≤ s.pt.runMs ∧ peerSilentHolds s = true ∧ (mon s .peerSilent).active = false
      | .openEntryExpiry key => Works .exit s ∧
          ∃ e ∈ s.wu.openTable, e.key = key ∧ (exitCfg s).openAgeHours * 3600000 ≤ e.ageMs
      | .awaitingEntryExpiry key => Works .tip s ∧ ∃ e ∈ s.tu.awaiting, e.key = key ∧ 86400000 ≤ e.ageMs
      | .minTipTimeExpiry => Works .tip s ∧ s.tu.session = .tipping ∧ (tipCfg s).minTipHalves * 500 ≤ s.tu.minTipMs
      | .tippingActive => Works .tip s ∧ s.tu.tipLevel = false ∧ 10000 ≤ s.tu.tipSteady
      | .tippingRelease => Works .tip s ∧ s.tu.tipLevel = true ∧ 10000 ≤ s.tu.tipSteady
      | .runContactActive => Works .mill s ∧ s.cc.runLevel = false ∧ 10000 ≤ s.cc.runSteady
      | .runContactRelease => Works .mill s ∧ s.cc.runLevel = true ∧ 10000 ≤ s.cc.runSteady
      | .flowPulse => Works .mill s ∧ s.ja.isOpen = true ∧ ∃ n, s.ja.flowTicks = some n ∧ 250 ≤ n
      | .speedSaturation => (Works .tip s ∨ Works .mill s) ∧ ∃ m, s.cc.measure = some m ∧ 4095 ≤ m.cycles
      | .stallQuietInterval => Works .mill s ∧ s.cc.runLevel = true ∧ s.cc.withholding = false ∧
          s.cc.measure = none ∧ 4095 ≤ s.cc.quietCycles
      | .startAllowanceExpiry => Works .mill s ∧ s.cc.withholding = true ∧
          (millCfg s).allowanceHalves * 500 ≤ s.cc.allowanceMs
      | .periodTimerExpiry => Works .mill s ∧ s.ja.isOpen = true ∧ s.ja.isPaused = false ∧
          (millCfg s).periodSeconds * 1000 ≤ s.ja.runningMs
      | .pauseLimitExpiry => Works .mill s ∧ s.ja.isOpen = true ∧ s.ja.isPaused = true ∧ 600000 ≤ s.ja.pausedMs
      | .completionTimerExpiry key => Works .lab s ∧ ∃ e ∈ table, e.key = key ∧ e.closed = none ∧
          ∃ t, e.completionMs = some t ∧ (labCfg s).completionMinutes * 60000 ≤ t
      | .notCrushedAgeExpiry key => Works .lab s ∧ ∃ e ∈ table, e.key = key ∧ e.closed = none ∧ e.parts = [] ∧
          (labCfg s).notCrushedHours * 3600000 ≤ e.ageMs
      | .summaryWaitExpiry => Works .lab s ∧ ∃ w, s.ra.wait = some w ∧ 60000 ≤ w.timerMs
      | _ => False

/-- No command ends in a fault or a refusal. The model's choices: none touches the queue or the wires, which stand for the
outside (logs 1 and 35), and none but a reset moves the prescalers, the model's own field, since a command takes no time
(log 2). -/
def Obligations.EveryCommandCompletes : Prop :=
  ∀ (c : Instr) (s : State), ∃ t, exec c s = .next t ∧ t.pending = s.pending ∧ t.wires = s.wires ∧
    (isReset c = false → t.clock = s.clock)

/-- POWER_ON, PIN_RESET and RESETN_FALL (R35, R43): everything at its reset value but the fresh flag, which only power-on
sets, and the level of RESETN. POWER_UP_END (R36): the straps are held; Table 1 decodes ROLEA and ROLEB. The values at
reset that the spec gives: R2, R10, R12, R13, R14, R43, R47, R71, R85, R185, section 1.7. The model's choices: the queue and the
wires kept through a reset (logs 1 and 35), RESETN_FALL giving every reset value and marking the level, which holds back
POWER_UP_END (log 8), and the station number and the prescalers at reset (log 6). -/
def Obligations.ResetsAndPowerUpSetTheStation : Prop :=
  (∀ s : State,
    exec .powerOn s = .next { State.reset with wires := s.wires, pending := s.pending } ∧
    exec .pinReset s = .next
      { State.reset with
        part := { Part.reset with fresh := s.part.fresh }, wires := s.wires, pending := s.pending } ∧
    exec .resetnFall s = .next
      { State.reset with
        part := { Part.reset with fresh := s.part.fresh, resetLow := true }
        wires := s.wires, pending := s.pending } ∧
    State.reset.part.stationState = .powerUp ∧ State.reset.part.fresh = true ∧ State.reset.part.settings = none ∧
    State.reset.part.day = 0 ∧ State.reset.li.queue = [] ∧ State.reset.li.lastSeq = 255 ∧
    State.reset.li.quiet = .active ∧ State.reset.li.rx = .waitQuiet ∧ State.reset.li.tx = .idle ∧
    State.reset.li.counters = ⟨0, 0, 0, 0, 0, 0, 0, 0, 0⟩ ∧
    (∀ n : StationNo, peer State.reset n = ⟨.absent, none, none, 0, 0, false, .nothing, 0⟩) ∧
    State.reset.fp.out = [] ∧ State.reset.fp.discarded = 0 ∧ State.reset.fp.eventsDropped = 0 ∧
    State.reset.wu.consSeq = 1 ∧ State.reset.tu.synSeq = 1 ∧ State.reset.cc.speed = 4095) ∧
  ((∀ (n : StationNo) (a b : StrapLevel) (s : State),
    s.part.stationState = .powerUp → s.part.resetLow = false →
    exec (.powerUpEnd n a b) s = .next { s with
      part := { s.part with
        station := n, role := roleOfStraps a b, powerUpMs := 8
        stationState := if (roleOfStraps a b).isSome then .config else .mute
        muteCause := if (roleOfStraps a b).isSome then .noCause else .strap }
      fp := { s.fp with rx := .hunt } }) ∧
  roleOfStraps .low .floating = some .entry ∧ roleOfStraps .low .high = some .exit ∧
  roleOfStraps .floating .low = some .tip ∧ roleOfStraps .floating .high = some .mill ∧
  roleOfStraps .high .low = some .lab ∧
  roleOfStraps .low .low = none ∧ roleOfStraps .floating .floating = none ∧ roleOfStraps .high .floating = none ∧
  roleOfStraps .high .high = none)

/-- "MUTE is left by power-on or pin reset" (R40): every other command leaves the station, the peer table, the units'
tables and the monitors of a muted station as they stood, and its transmitter idle.
The station number and role are held until the next reset (R36), the settings change only by a reset or a CONFIGURE
(R38, R44), power-on sets the fresh flag and only a CLEAR-FRESH clears it (R41, R42). -/
def Obligations.StationStateIsHeld : Prop :=
  (∀ (c : Instr) (s t : State), s.part.stationState = .mute → SilentOutsideRun s → isReset c = false →
    exec c s = .next t →
    t.part = s.part ∧ t.pt = s.pt ∧ t.wu = s.wu ∧ t.tu = s.tu ∧ t.cc = s.cc ∧ t.cl = s.cl ∧ t.ja = s.ja ∧
    t.ra = s.ra ∧ t.mu = s.mu ∧ t.li.tx = .idle ∧ t.li.queue = []) ∧
  (∀ (c : Instr) (s t : State), exec c s = .next t →
    (isReset c = false →
      ((∀ n a b, c ≠ .powerUpEnd n a b) → t.part.station = s.part.station ∧ t.part.role = s.part.role) ∧
      ((∀ p, c ≠ .configure p) → t.part.settings = s.part.settings)) ∧
    (c = .powerOn → t.part.fresh = true) ∧
    (c ≠ .powerOn → (∀ p, c ≠ .clearFresh p) → t.part.fresh = s.part.fresh) ∧
    (∀ p, c = .clearFresh p → t.part.fresh = s.part.fresh ∨ t.part.fresh = false))

/-- "A station in POWER-UP, CONFIG or MUTE transmits no frame" (R3): every step keeps it. -/
def Obligations.StepKeepsSilenceOutsideRun : Prop :=
  ∀ s t : State, SilentOutsideRun s → step s = .next t → SilentOutsideRun t

/-- Every step keeps the capacities of the queues and tables, and keeps each table distinct: one entry for a key, a plate or a
lot (R61, R68, R72, R95, R113, R127), a key at most once across LAB's table and store (R146), at most one day record waiting
(R163, R165). -/
def Obligations.StepKeepsCapacities : Prop :=
  (∀ s t : State, WithinCapacities s → step s = .next t → WithinCapacities t) ∧
  ∀ s t : State, TablesDistinct s → step s = .next t → TablesDistinct t

/-- Every step keeps the monitor records sound (R169, R170, R175) and the pause of the juice period (R123). That the step of
PAUSE_LIMIT_EXPIRY keeps the pause also with a resumption still to be taken, where the last words of R124 have the new period
open running, is the model's choice (log 36). -/
def Obligations.StepKeepsMonitorsSound : Prop :=
  ∀ s t : State, MonitorsSound s → PauseFollowsStall s → step s = .next t → MonitorsSound t ∧ PauseFollowsStall t

/-- The cane balance holds at reset, where the list is empty, and every step keeps it, a day end's too (R115). -/
def Obligations.CaneBalanceHolds : Prop :=
  (CaneBalance State.reset ∧ DrainedLotsEmpty State.reset) ∧
  ∀ s t : State, CaneBalance s → DrainedLotsEmpty s → step s = .next t → CaneBalance t ∧ DrainedLotsEmpty t

/-- The juice balance holds at reset, and every step keeps it, a day end's too; every close adds J to juice measured and the
same J to exactly one term on the right (R142). -/
def Obligations.JuiceBalanceHolds : Prop :=
  JuiceBalance State.reset ∧ (∀ s t : State, JuiceBalance s → step s = .next t → JuiceBalance t) ∧
  ∀ (forced : Bool) (s : State),
    let j : Kg32 := BitVec.ofNat 32 ((s.ja.pulses * (millCfg s).gramsPerPulse + s.ja.residue) / 1000)
    let t := closePeriod forced s
    t.ja.measured = s.ja.measured + j ∧
    ((t.ja.creditedMeasured = s.ja.creditedMeasured + j ∧ t.ja.unallocated = s.ja.unallocated) ∨
      (t.ja.creditedMeasured = s.ja.creditedMeasured ∧ t.ja.unallocated = s.ja.unallocated + j))

/-- Silence outside RUN, the capacities, the distinct tables, the sound monitor records and the juice pause hold at reset. -/
def Obligations.InvariantsHoldAtReset : Prop :=
  SilentOutsideRun State.reset ∧ WithinCapacities State.reset ∧ TablesDistinct State.reset ∧
  MonitorsSound State.reset ∧ PauseFollowsStall State.reset

/-! ### The tally line -/

/-- LINE_ACTIVE sets ACTIVE and restarts the quiet timer; LINE_QUIET enters QUIET, and the receiver hunts, anew if it hunted
(R2, R12). LINE_QUIET is taken as the event, its 320 µs not compared, the model's choice (log 5). FRAME_ERROR (R12, R13):
while the receiver takes frames, in every station state, the status increases its own counter, which stops at 65,535, and the
frame goes no further. Nothing else changes. The line's state after an error is read from R2 and R12 (log 9). The receiver,
bit by bit (R12): nothing in WAIT-QUIET; HUNT looks for 8 alternating bits and the sync byte B4h, and a code violation
restarts the search; HEADER takes 32 bits, a length above 48 being LONG at once; BODY takes length + 2 bytes; and a code
violation after sync is CODE-VIOLATION. The bit clock (R1): the transition one bit time after the last mid-bit transition is
the next bit, one half a bit time after it is none, and a bit time without one is a code violation. That a bit time is within
a quarter of it is the model's choice, and so is a clock started by the first transition (log 33). The line 2 µs on: low while
the part or another station drives low (section 1.1); a transition is a LINE_ACTIVE, and the receiver takes the level, but in
the own SENDING and MARK (R12), whose transitions hold the quiet timer themselves (log 23). That the line is sampled every 2
µs, and that what the receiver gives joins the queue after the LINE_ACTIVE of the transition, is the model's choice
(log 35). -/
def Obligations.LineStateFollowsTheLine : Prop :=
  (∀ s : State, s.part.resetLow = false →
    exec .lineActive s = .next { s with li := { s.li with quiet := .active, quietTicks := 0 } } ∧
    exec .lineQuiet s = .next { s with li := { s.li with
      quiet := .quiet, quietTicks := 160
      rx :=
        match s.li.rx with
        | .waitQuiet => .hunt []
        | .hunt _ => .hunt []
        | .header bits => .header bits
        | .body bits => .body bits
      bitTicks := none } }) ∧
  (∀ (e : FrameError) (s : State), Listens s →
    let c := s.li.counters
    exec (.frameError e) s = .next { s with
      li := { s.li with
        quiet := if e = .short then .quiet else .active
        quietTicks :=
          if e = .short then 160
          else if e = .codeViolation ∧ s.li.quiet = .active then s.li.quietTicks
          else 0
        rx := if e = .short then .hunt [] else .waitQuiet
        bitTicks := if e = .short then none else s.li.bitTicks
        counters :=
          match e with
          | .crcError => { c with crcError := min (c.crcError + 1) 65535 }
          | .short => { c with short := min (c.short + 1) 65535 }
          | .long => { c with long := min (c.long + 1) 65535 }
          | .codeViolation => { c with codeViolation := min (c.codeViolation + 1) 65535 } } }) ∧
  (∀ (bits last : List Bool) (b : Bool),
    let now := bits ++ [b]
    let lengthByte := (bytesOfBits now).getD 3 0
    let bit : LineEvent := .bit b
    LineRx.waitQuiet.take bit = (.waitQuiet, []) ∧ LineRx.waitQuiet.take .missing = (.waitQuiet, []) ∧
    (LineRx.hunt last).take .missing = (.hunt [], []) ∧
    (last.length < 15 → (LineRx.hunt last).take bit = (.hunt (last ++ [b]), [])) ∧
    (15 ≤ last.length → last.length ≤ 16 →
      let window := last.drop (last.length - 15) ++ [b]
      let synced := (∃ first : Bool, window.take 8 = (List.range 8).map fun i => first ^^ (i % 2 == 1)) ∧
        window.drop 8 = [true, false, true, true, false, true, false, false]
      (synced → (LineRx.hunt last).take bit = (.header [], [])) ∧
      (¬ synced → (LineRx.hunt last).take bit = (.hunt window, []))) ∧
    (LineRx.header bits).take .missing = (.header bits, [.frameError .codeViolation]) ∧
    (LineRx.body bits).take .missing = (.body bits, [.frameError .codeViolation]) ∧
    (now.length < 32 → (LineRx.header bits).take bit = (.header now, [])) ∧
    (now.length = 32 → 48 < lengthByte.toNat → (LineRx.header bits).take bit = (.header now, [.frameError .long])) ∧
    (now.length = 32 → lengthByte.toNat ≤ 48 → (LineRx.header bits).take bit = (.body now, [])) ∧
    (32 ≤ bits.length → now.length < (lengthByte.toNat + 6) * 8 → (LineRx.body bits).take bit = (.body now, [])) ∧
    (32 ≤ bits.length → now.length = (lengthByte.toNat + 6) * 8 → ∃ c, (LineRx.body bits).take bit = (.body now, [c]))) ∧
  (∀ (n : Nat) (level : Bool),
    bitClock none level level = (none, .nothing) ∧ bitClock none level (!level) = (some 0, .bit level) ∧
    (n < 5 → ∀ now, bitClock (some n) level now = (some (n + 1), .nothing)) ∧
    (5 ≤ n → bitClock (some n) level (!level) = (some 0, .bit level)) ∧
    (5 ≤ n → n < 9 → bitClock (some n) level level = (some (n + 1), .nothing)) ∧
    (9 ≤ n → bitClock (some n) level level = (none, .missing))) ∧
  ∀ s : State,
    let others := s.wires.line.tick
    let now := others.level && lineLevel s != some false
    let wires : Wires := { s.wires with line := others, tlr := now }
    let clocked := bitClock s.li.bitTicks s.wires.tlr now
    let heard := s.li.rx.take clocked.2
    (s.li.tx = .sending ∨ s.li.tx = .mark → tickLine s = { s with wires := wires }) ∧
    (s.li.tx ≠ .sending → s.li.tx ≠ .mark → tickLine s = { s with
      li := { s.li with rx := heard.1, bitTicks := clocked.1 }
      wires := wires
      pending := s.pending ++ (if s.wires.tlr = now then [] else [.lineActive]) ++ heard.2 })

/-- ATTEMPT_START (R3, R4, R5, R14, R17): the frame in hand is built with its live fields and driven. Its header carries
the fresh flag and the role, a started beacon 255, a regular beacon the last assigned number, a notice its own. A beacon
carries the state, its started and debt-saturated bits, the day, the monitor summary, the queue depth and the speed count,
4,095 at a role without one (R17, R32); a queued TIP takes its ages, its AGE-SATURATED mark and the attempt number afresh, and
every other notice goes as it was queued (R4, R82, R84). The quiet timer held at its start by the own frame is log 23's.
ATTEMPT_COMPLETE (R6, R9): the line is released, the collision count clears and LINE-CONGESTION ends; a queued notice
leaves the head of the queue with SENT if its report flag is set, and the next head is taken in hand (R3); a started
beacon is marked sent and the 2 s interval starts (R17). The end is taken as the event, without comparing how far the frame
has been driven, the model's choice (log 5). -/
def Obligations.AttemptsSendTheFrameInHand : Prop :=
  (∀ (s : State) (r : Role), s.part.stationState = .run → s.part.role = some r → s.li.tx = .waiting →
    s.li.quiet = .quiet → s.li.slotsLeft = 0 →
    let driven (kind : Nat) (seq : SeqNo) (payload : List Byte) (queue : List QueueEntry) : State :=
      let body := [BitVec.ofNat 8 (s.part.station.val * 16 + roleCode r * 2 + if s.part.fresh then 1 else 0),
        BitVec.ofNat 8 kind, seq, BitVec.ofNat 8 payload.length] ++ payload
      { s with li := { s.li with
          quiet := .active, quietTicks := 0, tx := .sending, txTicks := 0, queue := queue
          frame := [0xAA, 0xAA, 0xB4] ++ body ++ be 2 (crc16 body).toNat } }
    (s.li.inHand = some .startedBeacon →
      exec .attemptStart s = .next (driven 1 255 (beaconNow true s).payload s.li.queue)) ∧
    (s.li.inHand = some .regularBeacon →
      exec .attemptStart s = .next (driven 1 s.li.lastSeq (beaconNow false s).payload s.li.queue)) ∧
    (∀ e rest, s.li.inHand = some .queueHead → s.li.queue = e :: rest →
      exec .attemptStart s = .next
        (driven e.notice.kind.code e.seq (e.live (min (s.li.collisions + 1) 255)).payload
          ({ e with begun := true } :: rest)))) ∧
  (∀ s : State, s.part.stationState = .run → s.li.tx = .sending →
    let released (started : Bool) (timer : Option Nat) (queue : List QueueEntry) : LineInterface :=
      let next := started && !queue.isEmpty
      { s.li with
        quiet := .active, quietTicks := 0, rx := .waitQuiet, frame := [], txTicks := 0, slotsLeft := 0, partSlot := 0
        collisions := 0, queue := queue, startedSent := started, beaconTimer := timer
        tx := if next then .waiting else .idle
        inHand := if next then some .queueHead else none }
    let u := conditionEnds .lineCongestion s
    (∀ e rest, s.li.inHand = some .queueHead → s.li.queue = e :: rest →
      exec .attemptComplete s = .next { s with
        li := released s.li.startedSent s.li.beaconTimer rest, mu := u.mu
        fp := (if e.report then emit (.sent e.notice.kind e.notice.name) u else u).fp }) ∧
    (s.li.inHand = some .startedBeacon →
      exec .attemptComplete s = .next { s with li := released true (some 2000) s.li.queue, mu := u.mu, fp := u.fp }) ∧
    (s.li.inHand = some .regularBeacon →
      exec .attemptComplete s = .next { s with
        li := released s.li.startedSent s.li.beaconTimer s.li.queue, mu := u.mu, fp := u.fp })) ∧
  (∀ (started : Bool) (s : State),
    (beaconNow started s).payload =
      [if s.part.stationState = .config then 1 else 2,
        BitVec.ofNat 8 ((if started then 1 else 0) + if (mon s .reverseOverrun).active then 2 else 0)] ++
      be 2 s.part.day ++ be 2 s.mu.summary ++ [BitVec.ofNat 8 s.li.queue.length] ++
      be 2 (if s.part.role = some .tip ∨ s.part.role = some .mill then s.cc.speed else 4095)) ∧
  ∀ (e : QueueEntry) (attempt : Nat),
    (∀ n a, e.notice = .tip n → e.ages = some a →
      e.live attempt = .tip ⟨n.lot, n.mass, a.ageStart, a.ageEnd, n.distance,
        { n.flags with ageSaturated := a.saturated }, attempt⟩) ∧
    ((∀ n, e.notice ≠ .tip n) ∨ e.ages = none → e.live attempt = e.notice)

/-- COLLISION (R7, R9, R13): the frame is abandoned, the mark begins, both counts rise (to 255 and 65,535), and at 8 in
a row LINE-CONGESTION starts. COLLISION_MARK_END (R7): BACKOFF with 1 + station + 16 × min(n − 1, 3) slots. BACKOFF_END
(R8): WAITING with no slots left; a regular beacon gives way to a notice that has joined the queue, whose head is taken
in hand. The slots set as the mark ends, and the receiver in WAIT-QUIET, are read from R7 and R12 (log 23); an end is
taken as the event, the model's choice (log 5). -/
def Obligations.CollisionsMarkAndBackOff : Prop :=
  (∀ s : State,
    (s.li.tx = .sending →
      let n := min (s.li.collisions + 1) 255
      let u := if 8 ≤ n then conditionStarts .lineCongestion s else s
      exec .collision s = .next { s with
        li := { s.li with
          quiet := .active, quietTicks := 0, rx := .waitQuiet, tx := .mark, frame := [], txTicks := 0, collisions := n
          counters := { s.li.counters with collisions := min (s.li.counters.collisions + 1) 65535 } }
        mu := u.mu, fp := u.fp }) ∧
    (s.li.tx = .mark →
      exec .collisionMarkEnd s = .next { s with
        li := { s.li with
          quiet := .active, quietTicks := 0, tx := .backoff, txTicks := 0, partSlot := 0
          slotsLeft := 1 + s.part.station.val + 16 * min (s.li.collisions - 1) 3 } })) ∧
  (∀ s : State, s.li.tx = .backoff →
    (¬(s.li.inHand = some .regularBeacon ∧ s.li.queue ≠ []) →
      exec .backoffEnd s = .next { s with li := { s.li with tx := .waiting, slotsLeft := 0, partSlot := 0 } }) ∧
    (s.li.inHand = some .regularBeacon → s.li.queue ≠ [] → s.part.stationState = .run → s.li.startedSent = true →
      exec .backoffEnd s = .next { s with
        li := { s.li with
          tx := .waiting, inHand := some .queueHead, frame := [], txTicks := 0, slotsLeft := 0, partSlot := 0
          collisions := 0 }
        mu := (conditionEnds .lineCongestion s).mu, fp := (conditionEnds .lineCongestion s).fp }))

/-- STARTED_BEACON_DUE and REGULAR_BEACON_DUE (R17): a regular beacon is taken in hand only with an empty queue and an
IDLE transmitter, is otherwise skipped, and falls due again 2 s later. That the timer's count is not compared is the
model's choice (log 5). -/
def Obligations.BeaconsAreTakenInHandWhenDue : Prop :=
  ∀ s : State, s.part.stationState = .run →
    let inHand (f : InHand) (timer : Option Nat) : State :=
      { s with li := { s.li with
          tx := .waiting, inHand := some f, collisions := 0, slotsLeft := 0, partSlot := 0, beaconTimer := timer } }
    (s.li.startedSent = false → s.li.tx = .idle →
      exec .startedBeaconDue s = .next (inHand .startedBeacon none)) ∧
    (s.li.startedSent = true → s.li.tx = .idle → s.li.queue = [] →
      exec .regularBeaconDue s = .next (inHand .regularBeacon (some 2000))) ∧
    (s.li.startedSent = true → (s.li.tx ≠ .idle ∨ s.li.queue ≠ []) →
      exec .regularBeaconDue s = .next { s with li := { s.li with beaconTimer := some 2000 } })

/-- A notice offered to the transmit queue (R10, R14): below 8 it joins the tail with the next sequence number, and a
regular beacon in WAITING gives way (R17); at 8 it is discarded and counted with NOTICE-LOST. That a beacon which waits
again after a backoff gives way too is read from R17 (log 18). -/
def Obligations.OfferedNoticeJoinsOrIsLost : Prop :=
  ∀ (n : Notice) (ages : Option AgePair) (s : State),
    (s.li.queue.length < 8 →
      (offer n ages s).li.queue = s.li.queue ++ [⟨n, s.li.lastSeq + 1, n.reported, false, ages⟩] ∧
      (offer n ages s).li.lastSeq = s.li.lastSeq + 1 ∧ (offer n ages s).li.counters = s.li.counters ∧
      ((s.li.tx ≠ .waiting ∨ s.li.inHand ≠ some .regularBeacon) →
        (offer n ages s).mu = s.mu ∧ (offer n ages s).fp = s.fp) ∧
      (s.part.stationState = .run → s.li.startedSent = true →
        s.li.tx = .idle ∨ s.li.tx = .waiting ∧ s.li.inHand = some .regularBeacon →
        (offer n ages s).li.tx = .waiting ∧ (offer n ages s).li.inHand = some .queueHead ∧
        (offer n ages s).li.collisions = 0)) ∧
    (8 ≤ s.li.queue.length →
      offer n ages s = emit (.noticeLost n.kind n.name) { s with
        li := { s.li with counters := { s.li.counters with
          noticesLost := min (s.li.counters.noticesLost + 1) 65535 } } }) ∧
    n.reported = decide (n.kind ≠ .lotCrushed ∧ n.kind ≠ .daySummary)

/-! ### Reception -/

/-- A GOOD frame that goes no further (R12, R13, R25): not taken at all in the own SENDING or MARK; counted as
bad-source when its role code is not 1 to 5; without effect in POWER-UP and MUTE; past the duplicate checks and the peer
table, an unknown kind and a notice of wrong length, wrong sender or out of range are each counted in their own counter.
The model's readings: a bad source is counted in every station state before every other check (log 13), the line is
ACTIVE and the receiver in WAIT-QUIET after a frame (log 9), an own-number frame in CONFIG meets the checks of R25 (log
15), PEER-SILENT is decided right after the table (log 14), and no frame is taken with RESETN low (log 8). -/
def Obligations.FramesAreCountedOrPassedOn : Prop :=
  (∀ (c : Instr) (h : FrameHeader) (k : Nat) (p : List Byte) (s : State), asFrame c = some (h, k, p) →
    let line : LineInterface := { s.li with quiet := .active, quietTicks := 0, rx := .waitQuiet }
    (¬ Listens s → exec c s = .next s) ∧
    (Listens s → (h.roleCode.val < 1 ∨ 5 < h.roleCode.val) →
      exec c s = .next { s with li := { line with
        counters := { s.li.counters with badSource := min (s.li.counters.badSource + 1) 65535 } } }) ∧
    (Listens s → 1 ≤ h.roleCode.val → h.roleCode.val ≤ 5 →
      (s.part.stationState = .powerUp ∨ s.part.stationState = .mute) → exec c s = .next { s with li := line })) ∧
  ((∀ (h : FrameHeader) (kind : Byte) (p : List Byte) (s : State) (sender : Role), Passes sender h s →
    (kind = 0 ∨ 8 ≤ kind.toNat) →
    let u := heard sender h kind.toNat p s
    exec (.receiveUnknownKind h kind p) s = .next { u with li := { u.li with
      counters := { u.li.counters with unknownKind := min (u.li.counters.unknownKind + 1) 65535 } } }) ∧
  (∀ (c : Instr) (h : FrameHeader) (k : Nat) (p : List Byte) (s : State) (sender : Role),
    asFrame c = some (h, k, p) → Passes sender h s → 1 ≤ k → k ≤ 7 → readNotice k h.station sender p = none →
    exec c s = .next { heard sender h k p s with li := malformedCounted (heard sender h k p s) }))

/-- A station in RUN that hears its own number, or that of role MILL or LAB hears its role from a lower number, goes to
MUTE (R19, R20, R40): frame, queue, backoff and beacon timer are gone, each active monitor ends with its event, and the
peer table has taken the frame only in the second case. The model's readings: PEER-SILENT is decided before the mute,
and the muting frame goes no further (log 14); the line and the receiver after the frame (log 9). The order of the
ending events, by monitor number, is the model's choice (log 32). -/
def Obligations.DuplicateStationOrRoleMutes : Prop :=
  ∀ (c : Instr) (h : FrameHeader) (k : Nat) (p : List Byte) (s : State) (sender : Role),
    asFrame c = some (h, k, p) → Listens s → h.roleCode.val = roleCode sender →
    let ended (u : State) : List OutItem := (MonitorId.all.filter fun i => (mon u i).active).map fun i => .monitor i false
    let muted (cause : MuteCause) (u : State) : State := { u with
      part := { s.part with stationState := .mute, muteCause := cause }
      li := { s.li with
        quiet := .active, quietTicks := 0, rx := .waitQuiet, tx := .idle, inHand := none, frame := [], txTicks := 0
        slotsLeft := 0, partSlot := 0, collisions := 0, queue := [], beaconTimer := none }
      mu := ⟨mapTable (fun r => ⟨r.mode, r.qual, 0, false, false, false⟩) u.mu.recs⟩
      fp := ((ended u).foldl (fun t ev => emit ev t) u).fp }
    (s.part.stationState = .run → h.station = s.part.station →
      exec c s = .next (muted .duplicateStation s)) ∧
    (s.part.stationState = .run ∨ s.part.stationState = .config → (sender = .mill ∨ sender = .lab) →
      s.part.role = some sender → h.station < s.part.station →
      exec c s = .next (muted .duplicateRole (heard sender h k p s)))

/-- A frame past the duplicate checks updates the entry of its source and no other (R15): HEARD with the time at 0, the
role and fresh flag of the frame, a role change counted, and the missed count and last sequence by kind. In CONFIG the
own station number passes the checks, as log 15 reads R13 and R19. The malformed beacon's open values are free (log 12). -/
def Obligations.PeerTableTakesTheFrame : Prop :=
  (∀ (c : Instr) (h : FrameHeader) (k : Nat) (p : List Byte) (s : State) (sender : Role),
    asFrame c = some (h, k, p) → Passes sender h s →
    ∃ t, exec c s = .next t ∧
      t.pt = { s.pt with peers := s.pt.peers.set h.station ((s.pt.peers[h.station]).afterFrame sender h k p) }) ∧
  ∀ (e : PeerEntry) (role : Role) (h : FrameHeader) (k : Nat) (p : List Byte),
    let e' := e.afterFrame role h k p
    let changed := e.role ≠ none ∧ e.role ≠ some role
    let last := if changed then none else e.lastSeq
    e'.state = .heard ∧ e'.sinceMs = 0 ∧ e'.role = some role ∧ e'.fresh = h.fresh ∧
    e'.roleChanges = (if changed then min (e.roleChanges + 1) 65535 else e.roleChanges) ∧
    (k ≠ 1 → e'.beaconSeen = e.beaconSeen) ∧
    (k = 1 → p[0]? = some 1 → e'.beaconSeen = .config) ∧ (k = 1 → p[0]? = some 2 → e'.beaconSeen = .run) ∧
    (k ≠ 1 → last = none → e'.lastSeq = some h.seq ∧ e'.missed = e.missed) ∧
    (∀ q, k ≠ 1 → last = some q →
      e'.lastSeq = some h.seq ∧
      ((h.seq - q).toNat = 0 → e'.missed = e.missed) ∧
      (1 ≤ (h.seq - q).toNat → e'.missed = min (e.missed + ((h.seq - q).toNat - 1)) 255)) ∧
    (∀ b, k = 1 → p[1]? = some b → b.getLsbD 0 = true → e'.lastSeq = none ∧ e'.missed = e.missed) ∧
    (∀ b, k = 1 → p[1]? = some b → b.getLsbD 0 = false → last = none →
      e'.lastSeq = some h.seq ∧ e'.missed = e.missed) ∧
    (∀ b q, k = 1 → p[1]? = some b → b.getLsbD 0 = false → last = some q →
      if 1 ≤ (h.seq - q).toNat ∧ (h.seq - q).toNat ≤ 127 then
        e'.lastSeq = some h.seq ∧ e'.missed = min (e.missed + (h.seq - q).toNat) 255
      else e'.lastSeq = some q ∧ e'.missed = e.missed)

/-- PEER_SILENCE_EXPIRY makes a HEARD entry SILENT (R16); it and PEER_ABSENCE_TIMEOUT report the start or the end of
PEER-SILENT, which holds in RUN while a depended role has a SILENT entry, or none HEARD or SILENT 10 s after the entry
(R18). The model's readings and choices: the condition ends as soon as neither sentence of R18 holds (log 16), an expiry
is taken as the event (log 5), and the counts stand at their limits after it (log 29). -/
def Obligations.SilentPeersAreReported : Prop :=
  (∀ (n : StationNo) (s : State), (s.part.stationState = .config ∨ s.part.stationState = .run) →
    (peer s n).state = .heard →
    let u : State := { s with pt := { s.pt with
      peers := s.pt.peers.set n { peer s n with state := .silent, sinceMs := silenceMs s } } }
    exec (.peerSilenceExpiry n) s = .next
      (if s.part.stationState = .config then u
       else if peerSilentHolds u then conditionStarts .peerSilent u else conditionEnds .peerSilent u)) ∧
  (∀ s : State, s.part.stationState = .run →
    let u : State := { s with pt := { s.pt with runMs := 10000 } }
    exec .peerAbsenceTimeout s = .next
      (if peerSilentHolds u then conditionStarts .peerSilent u else conditionEnds .peerSilent u)) ∧
  (∀ (s : State) (r : Role), s.part.stationState = .run → s.part.role = some r →
    (peerSilentHolds s = true ↔ ∃ d ∈ dependsOn r,
      (∃ n : StationNo, (peer s n).role = some d ∧ (peer s n).state = .silent) ∨
      ((∀ n : StationNo, (peer s n).role = some d → (peer s n).state = .absent) ∧ 10000 ≤ s.pt.runMs))) ∧
  dependsOn .entry = [] ∧ dependsOn .exit = [.entry] ∧ dependsOn .tip = [.entry] ∧ dependsOn .mill = [.tip] ∧
  dependsOn .lab = [.entry, .mill, .exit]

/-- Crop day adoption (R45, R46, R59): a well-formed beacon of LAB with a day, and a well-formed DAY-END (at MILL in
RUN: the next statement), set the day held at every role but LAB; a change emits DAY-CHANGED, and at ENTRY the
consignment sequence restarts at 1. In CONFIG the own station number passes the checks, as log 15 reads R13 and R19.
After a frame the line is ACTIVE and the receiver waits for quiet, as log 9 reads R2 and R12. PEER-SILENT is decided
right after the table, before the unit's own events, as log 14 reads R18. -/
def Obligations.LineDaysAreAdopted : Prop :=
  ∀ (h : FrameHeader) (p : List Byte) (s : State) (sender : Role), Passes sender h s →
    let adopted (d : Nat) (u : State) : State :=
      if s.part.role = some .lab ∨ d = s.part.day then u
      else { u with
        part := { s.part with day := d }
        wu := if s.part.role = some .entry then { s.wu with consSeq := 1 } else s.wu
        fp := (emit (.dayChanged s.part.day d) u).fp }
    (∀ b, readBeacon p = some b →
      exec (.receiveBeacon h p) s = .next
        (if sender = .lab ∧ b.day ≠ 0 then adopted b.day (heard sender h 1 p s) else heard sender h 1 p s)) ∧
    (∀ n, readDayEnd p = some n → sender = .lab → ¬ Works .mill s →
      exec (.receiveDayEnd h p) s = .next (adopted n.newDay (heard sender h 6 p s)))

/-- A well-formed DAY-END at MILL in RUN: the day is adopted, one DAY-SUMMARY with the counters sampled is offered,
and the day counters are zeroed, carried in taking the on-carrier mass (R31, R45, R116, R117, R143). After a frame the
line is ACTIVE and the receiver waits for quiet, as log 9 reads R2 and R12. PEER-SILENT is decided right after the
table, before the unit's own events, as log 14 reads R18. -/
def Obligations.MillDayEndSamplesAndZeroes : Prop :=
  ∀ (h : FrameHeader) (p : List Byte) (s : State) (n : DayEndNotice), Works .mill s → Passes .lab h s →
    readDayEnd p = some n →
    let u := heard .lab h 6 p s
    let v : State :=
      if n.newDay = s.part.day then u
      else { u with part := { s.part with day := n.newDay }, fp := (emit (.dayChanged s.part.day n.newDay) u).fp }
    let onCarrier : Kg32 := BitVec.ofNat 32 ((s.cl.lots.filter (·.state ≠ .draining)).map (·.massRem)).sum
    let summary : MillCounters :=
      ⟨s.cl.entered, s.cl.carriedIn, s.cl.corrections, s.cl.crushed, onCarrier, s.cl.writtenOff, s.ja.measured,
        s.ja.creditedMeasured, s.ja.creditedEstimated, s.ja.unallocated, s.ja.periods, s.ja.forced⟩
    exec (.receiveDayEnd h p) s = .next { offer (.daySummary ⟨n.closing, summary⟩) none v with
      cl := { s.cl with
        entered := 0, carriedIn := onCarrier, corrections := 0, crushed := 0, writtenOff := 0 }
      ja := { s.ja with
        measured := 0, creditedMeasured := 0, creditedEstimated := 0, unallocated := 0, periods := 0, forced := 0 } }

/-! ### The weighbridges -/

/-- EXIT's open consignment table (R61, R62, R66, R67): a GROSS of a known key is counted as malformed, a new one
joins at the newest end, a full table expires its oldest first; an expiry offers the NET with the plate's tare, basis
ESTIMATED, or the default tare, and the entry leaves. After a frame the line is ACTIVE and the receiver waits for
quiet, as log 9 reads R2 and R12. PEER-SILENT is decided right after the table, before the unit's own events, as log
14 reads R18. An expiry is taken as the event, its count not compared, the model's choice (log 5). In CONFIG the own
station number passes the checks, as log 15 reads R13 and R19. -/
def Obligations.ExitKeepsTheOpenTable : Prop :=
  let expired (e : OpenEntry) (u : State) : State :=
    let found := u.wu.tares.find? (·.plate = e.plate)
    let tare := (found.map (·.tare)).getD (exitCfg u).defaultTare
    { offer (.net ⟨e.key, e.plate, e.grower, e.gross, tare, e.gross - tare,
        if found.isSome then .estimated else .defaulted, decide (e.gross < tare)⟩) none u with
      wu := { u.wu with
        openTable := u.wu.openTable.filter (·.key ≠ e.key)
        tares :=
          match found with
          | some t => t :: u.wu.tares.filter (·.plate ≠ e.plate)
          | none => u.wu.tares } }
  let joined (n : GrossNotice) (u : State) : State :=
    { u with wu := { u.wu with openTable := u.wu.openTable ++ [⟨n.key, n.plate, n.grower, n.gross, 0⟩] } }
  (∀ (h : FrameHeader) (p : List Byte) (s : State) (n : GrossNotice), Works .exit s → Passes .entry h s →
    readGross h.station p = some n →
    let u := heard .entry h 2 p s
    ((∃ e ∈ s.wu.openTable, e.key = n.key) → exec (.receiveGross h p) s = .next { u with li := malformedCounted u }) ∧
    ((∀ e ∈ s.wu.openTable, e.key ≠ n.key) → s.wu.openTable.length < 64 →
      exec (.receiveGross h p) s = .next (joined n u)) ∧
    (∀ e rest, (∀ e ∈ s.wu.openTable, e.key ≠ n.key) → 64 ≤ s.wu.openTable.length → s.wu.openTable = e :: rest →
      exec (.receiveGross h p) s = .next (joined n (expired e u)))) ∧
  ∀ (key : Key) (e : OpenEntry) (s : State), Works .exit s → s.wu.openTable.find? (·.key = key) = some e →
    exec (.openEntryExpiry key) s = .next (expired e s)

/-- TIP's awaiting table (R70, R72, R73): a GROSS of a key that awaits or is armed is counted as malformed, a new one
joins at the newest end, at 32 pushing out the oldest with a count; a NET removes its key, a WEIGHED one writing its
tare; an expiry removes its key. After a frame the line is ACTIVE and the receiver waits for quiet, as log 9 reads R2
and R12. PEER-SILENT is decided right after the table, before the unit's own events, as log 14 reads R18. An expiry is
taken as the event, its count not compared, the model's choice (log 5). -/
def Obligations.TipKeepsTheAwaitingTable : Prop :=
  (∀ (h : FrameHeader) (p : List Byte) (s : State) (n : GrossNotice), Works .tip s → Passes .entry h s →
    readGross h.station p = some n →
    let u := heard .entry h 2 p s
    let known := (∃ e ∈ s.tu.awaiting, e.key = n.key) ∨ ∃ a, s.tu.arming = some a ∧ a.key = n.key
    let joined (old : List AwaitingEntry) : TipUnit := { s.tu with awaiting := old ++ [⟨n.key, n.plate, n.gross, 0⟩] }
    (known → exec (.receiveGross h p) s = .next { u with li := malformedCounted u }) ∧
    (¬ known → s.tu.awaiting.length < 32 → exec (.receiveGross h p) s = .next { u with tu := joined s.tu.awaiting }) ∧
    (¬ known → 32 ≤ s.tu.awaiting.length →
      exec (.receiveGross h p) s = .next { u with tu := joined (s.tu.awaiting.drop 1), li := malformedCounted u })) ∧
  (∀ (h : FrameHeader) (p : List Byte) (s : State) (n : NetNotice), Works .tip s → Passes .exit h s →
    readNet p = some n →
    exec (.receiveNet h p) s = .next { heard .exit h 3 p s with tu := { s.tu with
      awaiting := s.tu.awaiting.filter (·.key ≠ n.key)
      tares := if n.basis = .weighed then tareWrite n.plate n.tare s.tu.tares else s.tu.tares } }) ∧
  ∀ (key : Key) (s : State), Works .tip s →
    exec (.awaitingEntryExpiry key) s = .next { s with tu := { s.tu with
      awaiting := s.tu.awaiting.filter (·.key ≠ key) } }

/-- A vehicle tare table (R68): 128 entries with distinct plates in order of use; a write replaces or adds at the most
recent end, the least recently used leaving first; a lookup that finds the plate is a use, another changes nothing. -/
def Obligations.TareTablesKeepTheOrderOfUse : Prop :=
  ∀ (plate : Plate) (tare : Nat) (t : List TareEntry),
    t.length ≤ 128 → t.Pairwise (fun a b => a.plate ≠ b.plate) →
    (tareWrite plate tare t).length ≤ 128 ∧ (tareWrite plate tare t).Pairwise (fun a b => a.plate ≠ b.plate) ∧
    (tareUsed plate t).Pairwise (fun a b => a.plate ≠ b.plate) ∧ (tareUsed plate t).length = t.length ∧
    (∀ q, tareLookup q (tareUsed plate t) = tareLookup q t) ∧
    tareLookup plate (tareWrite plate tare t) = some tare ∧ (tareWrite plate tare t).head? = some ⟨plate, tare⟩ ∧
    ((∃ e ∈ t, e.plate = plate) →
      (tareWrite plate tare t).drop 1 = t.filter (·.plate ≠ plate) ∧
      (∀ q, q ≠ plate → tareLookup q (tareWrite plate tare t) = tareLookup q t) ∧
      (∃ e, tareUsed plate t = e :: t.filter (·.plate ≠ plate) ∧ e ∈ t ∧ e.plate = plate)) ∧
    ((∀ e ∈ t, e.plate ≠ plate) →
      tareWrite plate tare t = ⟨plate, tare⟩ :: t.take 127 ∧ tareUsed plate t = t ∧ tareLookup plate t = none)

/-- VEHICLE (R48, R49): out of range, day unknown at ENTRY, SCALE-OVER's effect, in this order, refuse it; otherwise the
vehicle in hand is cancelled with its event and the new one is in hand in ARMED. -/
def Obligations.VehicleIsTakenInHand : Prop :=
  ∀ (p : List Byte) (s : State) (r : Role), Works r s → PortTakes s →
    (r = .entry ∧ p.length = 10) ∨ (r = .exit ∧ p.length = 8) →
    let plate := p.take 8
    let bad := (∃ b ∈ plate, plateChar b = false) ∨ (r = .entry ∧ field p 8 2 = 0)
    (bad → exec (.vehicle p) s = .next { s with fp := repliedTo .vehicle .outOfRange s }) ∧
    (¬ bad → r = .entry → s.part.day = 0 →
      exec (.vehicle p) s = .next { s with fp := repliedTo .vehicle .dayUnknown s }) ∧
    (¬ bad → (r = .entry → s.part.day ≠ 0) → (mon s .scaleOver).effective = true →
      exec (.vehicle p) s = .next { s with fp := repliedTo .vehicle .busy s }) ∧
    (¬ bad → (r = .entry → s.part.day ≠ 0) → (mon s .scaleOver).effective = false →
      exec (.vehicle p) s = .next { s with
        wu := { s.wu with
          capture := .armed, runCount := 0, runCentre := none
          vehicle := some ⟨plate, if r = .entry then some (field p 8 2) else none⟩ }
        fp := acceptedAfter .vehicle (s.wu.vehicle.toList.map fun v => .cancelled v.plate) s })

/-- WEIGHT (R50 to R57): a reading out of range is refused; another sets zero-seen when it is a zero reading, starts,
extends, restarts or breaks the run by the state of the capture machine, and is then taken by SCALE-OVER. -/
def Obligations.ReadingsDriveTheCapture : Prop :=
  ∀ (p : List Byte) (s : State) (r : Role), Works r s → (r = .entry ∨ r = .exit) → PortTakes s → p.length = 4 →
    let w : Int := signedField p 0 3
    let status := field p 3 1
    let c := weighCfg s
    let isOver := status = 2 ∨ status = 3 ∨ (c.capacity : Int) < w
    let zero := ¬ isOver ∧ status = 0 ∧ -(c.zeroBand : Int) ≤ w ∧ w ≤ c.zeroBand
    let load := ¬ isOver ∧ ¬ zero ∧ status = 0 ∧ (c.minLoad : Int) ≤ w
    let u := hunting s
    let unit : WeighUnit := { s.wu with zeroSeen := s.wu.zeroSeen || decide zero }
    let armed : WeighUnit := { unit with capture := .armed, runCount := 0, runCentre := none }
    let started : WeighUnit := { unit with capture := .settling, runCount := 1, runCentre := some w }
    let monitored (v : State) : State :=
      if isOver then observe .scaleOver v
      else if status = 0 then endingEvent .scaleOver (observeContrary .scaleOver v) else observeContrary .scaleOver v
    let after (x : WeighUnit) : State := answered .weight .accepted (monitored { u with wu := x })
    let outside := w < -99999 ∨ 199999 < w ∨ 3 < status
    (outside → exec (.weight p) s = .next { s with fp := repliedTo .weight .outOfRange s }) ∧
    (¬ outside → s.wu.capture = .idle → exec (.weight p) s = .next (after unit)) ∧
    (¬ outside → s.wu.capture = .armed →
      exec (.weight p) s = .next (after (if load ∧ s.wu.zeroSeen = true then started else unit))) ∧
    (∀ centre, ¬ outside → s.wu.capture = .settling → s.wu.runCentre = some centre →
      let inRun := status = 0 ∧ centre - c.band ≤ w ∧ w ≤ centre + c.band ∧ (c.zeroBand : Int) < w ∧ w ≤ c.capacity
      (¬ inRun → exec (.weight p) s = .next (after (if load then started else armed))) ∧
      (inRun → s.wu.runCount + 1 < c.stableCount →
        exec (.weight p) s = .next (after { unit with runCount := s.wu.runCount + 1 })) ∧
      (∀ v, inRun → c.stableCount ≤ s.wu.runCount + 1 → s.wu.vehicle = some v →
        let taken : State := emit (.captured w.toNat) { u with wu := { unit with
          capture := .idle, vehicle := none, runCount := 0, runCentre := none, zeroSeen := false } }
        exec (.weight p) s = .next (answered .weight .accepted (monitored
          (if r = .entry then grossCapture w.toNat v taken else tareCapture w.toNat v taken)))))

/-- A capture (R55, R59, R60, R63 to R65, R67, R69): at ENTRY the key takes the next sequence, 1 after 4095, and a GROSS is
offered; at EXIT the oldest open entry with the plate gives a WEIGHED NET and leaves, or the tare is unmatched, and the
tare is written. -/
def Obligations.CapturesGiveGrossAndNet : Prop :=
  ∀ (mass : Nat) (v : Vehicle) (s : State),
    (∀ grower, v.grower = some grower →
      grossCapture mass v s =
        offer (.gross ⟨⟨s.part.day, s.part.station, s.wu.consSeq, false⟩, v.plate, grower, mass⟩) none { s with
          wu := { s.wu with consSeq := if s.wu.consSeq = 4095 then 1 else s.wu.consSeq + 1 } }) ∧
    (∀ before e after, s.wu.openTable = before ++ e :: after → e.plate = v.plate →
      (∀ x ∈ before, x.plate ≠ v.plate) →
      tareCapture mass v s = { offer (.net ⟨e.key, e.plate, e.grower, e.gross, mass, e.gross - mass, .weighed,
          decide (e.gross < mass)⟩) none s with
        wu := { s.wu with
          openTable := s.wu.openTable.filter (·.key ≠ e.key), tares := tareWrite v.plate mass s.wu.tares } }) ∧
    ((∀ x ∈ s.wu.openTable, x.plate ≠ v.plate) →
      tareCapture mass v s = { emit (.unmatchedTare v.plate mass) s with
        wu := { s.wu with tares := tareWrite v.plate mass s.wu.tares } })

/-! ### The tippler -/

/-- ASSIGN and DISARM (R74 to R77): the form's length, the ranges, the session and the arming record refuse an ASSIGN in
this order; the entry found is armed with its part masses, or a synthetic key is; DISARM clears the arming record. -/
def Obligations.AssignArmsAndDisarmClears : Prop :=
  ∀ (p : List Byte) (s : State), Works .tip s → PortTakes s →
    let byPlate := field p 0 1 = 1
    let plate := (p.drop 1).take 8
    let key := readKey p 1 false
    let m := if byPlate then field p 9 1 else field p 5 1
    let wrongLength := (byPlate ∧ p.length = 6) ∨ (field p 0 1 = 2 ∧ p.length = 10)
    let inRange := 1 ≤ m ∧ m ≤ 3 ∧
      ((byPlate ∧ ∀ b ∈ plate, plateChar b = true) ∨ (field p 0 1 = 2 ∧ key.day ≠ 0 ∧ key.seq ≠ 0))
    let named (e : AwaitingEntry) : Prop := if byPlate then e.plate = plate else e.key = key
    (p.length = 10 ∨ p.length = 6 →
      (wrongLength → exec (.assign p) s = .next { s with fp := repliedTo .assign .format s }) ∧
      (¬ wrongLength → ¬ inRange → exec (.assign p) s = .next { s with fp := repliedTo .assign .outOfRange s }) ∧
      (¬ wrongLength → inRange → (s.tu.session ≠ .idle ∨ s.tu.arming ≠ none) →
        exec (.assign p) s = .next { s with fp := repliedTo .assign .busy s }) ∧
      (¬ wrongLength → inRange → s.tu.session = .idle → s.tu.arming = none →
        (∀ before e after, s.tu.awaiting = before ++ e :: after → named e → (∀ x ∈ before, ¬ named x) →
          let total := e.gross - (tareLookup e.plate s.tu.tares).getD (tipCfg s).defaultTare
          exec (.assign p) s = .next { s with
            tu := { s.tu with
              awaiting := s.tu.awaiting.filter (·.key ≠ e.key)
              tares := tareUsed e.plate s.tu.tares
              arming := some ⟨e.key, false, m, 1, (total / m + total % m) :: List.replicate (m - 1) (total / m)⟩ }
            fp := repliedTo .assign .accepted s }) ∧
        ((∀ x ∈ s.tu.awaiting, ¬ named x) →
          exec (.assign p) s = .next { s with
            tu := { s.tu with
              synSeq := if s.tu.synSeq = 4095 then 1 else s.tu.synSeq + 1
              arming := some ⟨⟨s.part.day, s.part.station, s.tu.synSeq, true⟩, true, 1, 1,
                [(tipCfg s).defaultLotMass]⟩ }
            fp := repliedTo .assign .accepted s }))) ∧
    (p.length = 0 →
      (s.tu.session ≠ .idle → exec (.disarm p) s = .next { s with fp := repliedTo .disarm .busy s }) ∧
      (s.tu.session = .idle → exec (.disarm p) s = .next { s with
        tu := { s.tu with arming := none }, fp := repliedTo .disarm .accepted s }))

/-- A tip session (R76, R78 to R82): contact active starts it, arming a synthetic key when none is armed; the minimum
tip time moves it to SETTLE; a release in TIPPING ends it with no lot, one in SETTLE offers the part's TIP notice with
its flags, emits TIPPED and advances the part number. An expiry is taken as the event, its count not compared, the
model's choice (log 5). A contact event is taken as the event too, its 20 ms not compared (log 7). -/
def Obligations.TipSessionGivesALot : Prop :=
  ∀ s : State, Works .tip s →
    let started (u : TipUnit) : TipUnit := { u with
      tipLevel := true, tipSteady := 0, session := .tipping, sessionAge := some 0, minTipMs := 0
      overrunMark := (mon s .reverseOverrun).active }
    let ended (u : TipUnit) : TipUnit := { u with
      tipLevel := false, tipSteady := 0, session := .idle, sessionAge := none, overrunMark := false }
    (s.tu.tipLevel = false → s.tu.arming ≠ none → exec .tippingActive s = .next { s with tu := started s.tu }) ∧
    (s.tu.tipLevel = false → s.tu.arming = none →
      exec .tippingActive s = .next { s with tu := started { s.tu with
        synSeq := if s.tu.synSeq = 4095 then 1 else s.tu.synSeq + 1
        arming := some ⟨⟨s.part.day, s.part.station, s.tu.synSeq, true⟩, true, 1, 1, [(tipCfg s).defaultLotMass]⟩ } }) ∧
    (s.tu.session = .tipping → exec .minTipTimeExpiry s = .next { s with tu := { s.tu with session := .settle } }) ∧
    (s.tu.tipLevel = true → s.tu.session = .tipping →
      exec .tippingRelease s = .next { s with tu := ended s.tu }) ∧
    (∀ a age, s.tu.tipLevel = true → s.tu.session = .settle → s.tu.arming = some a → s.tu.sessionAge = some age →
      let flags : LotFlags := { LotFlags.clear with
        synthetic := a.key.synthetic, grossUnknown := a.grossUnknown, positionSuspect := s.tu.overrunMark
        ageSaturated := decide (65535 ≤ age) }
      let u := offer (.tip ⟨⟨a.key, a.next, a.m⟩, a.masses.getD (a.next - 1) 0, age, 0, (tipCfg s).distance, flags, 1⟩)
        (some ⟨age, 0, decide (65535 ≤ age)⟩) s
      exec .tippingRelease s = .next { u with
        tu := ended { s.tu with arming := if a.next = a.m then none else some { a with next := a.next + 1 } }
        fp := (emit (.tipped ⟨a.key, a.next, a.m⟩) u).fp })

/-! ### The carrier counter -/

/-- STEP_PULSE (R84, R86 to R89, R91): a reverse pulse adds to the debt, or at 65,535 starts REVERSE-OVERRUN and marks a
running session; a forward pulse repays the debt, or advances P and is handed to the ages at TIP and to the mouth at
MILL; every pulse is then measured, and at MILL an ended measurement below 4,095 is a live observation. The order inside
one pulse is the model's choice (log 21): count and hand on, then withholding, then the measurement, so that one ending
on the pulse that ends withholding is live. So is the Nth pulse at exactly 4,095, which makes no observation (log 34). -/
def Obligations.StepPulsesMoveAndMeasure : Prop :=
  ∀ (s : State) (r : Role), Works r s → (r = .tip ∨ r = .mill) →
    let older (a : AgePair) : AgePair :=
      let x := min (a.ageStart + 1) 65535
      let y := min (a.ageEnd + 1) 65535
      ⟨x, y, a.saturated || x == 65535 || y == 65535⟩
    let range := if r = .mill then (millCfg s).speedRange else 1
    let pulsed (u : State) : State :=
      let n := if s.cc.runLevel = true then min (s.cc.runPulses + 1) 2 else s.cc.runPulses
      { u with cc := { u.cc with
        quietCycles := 0, runPulses := n, withholding := s.cc.withholding && decide (n < 2) } }
    let measured (u : State) : State :=
      match s.cc.measure with
      | none => { u with cc := { u.cc with measure := some ⟨0, 0⟩ } }
      | some m =>
        if m.pulses + 1 < range then { u with cc := { u.cc with measure := some ⟨m.cycles, m.pulses + 1⟩ } }
        else
          let v := { u with cc := { u.cc with speed := m.cycles, measure := some ⟨0, 0⟩ } }
          if r = .mill ∧ v.cc.runLevel = true ∧ v.cc.withholding = false ∧ m.cycles < 4095 then
            endingEvent .carrierStall (observeContrary .carrierStall { v with cc := { v.cc with lastStall := false } })
          else v
    let stepped : State := { s with cc := { s.cc with p := s.cc.p + 1 } }
    let repaid : State := { s with cc := { s.cc with debt := s.cc.debt - 1 } }
    (s.cc.debt < 65535 →
      exec (.stepPulse false) s = .next (measured (pulsed { s with cc := { s.cc with debt := s.cc.debt + 1 } }))) ∧
    (65535 ≤ s.cc.debt →
      exec (.stepPulse false) s = .next (measured (pulsed { conditionStarts .reverseOverrun s with
        tu := { s.tu with overrunMark := s.tu.overrunMark || s.tu.session != .idle } }))) ∧
    (0 < s.cc.debt →
      exec (.stepPulse true) s =
        .next (measured (pulsed (if s.cc.debt = 1 then conditionEnds .reverseOverrun repaid else repaid)))) ∧
    (s.cc.debt = 0 → r = .tip →
      exec (.stepPulse true) s = .next (measured (pulsed { stepped with
        tu := { s.tu with
          sessionAge := if s.tu.session = .idle then s.tu.sessionAge else s.tu.sessionAge.map fun a => min (a + 1) 65535 }
        li := { s.li with queue := s.li.queue.map fun e => { e with ages := e.ages.map older } } }))) ∧
    (s.cc.debt = 0 → r = .mill →
      exec (.stepPulse true) s = .next (measured (pulsed
        ((s.cl.lots.filter fun l => !(s.cc.p - l.front).msb && (s.cc.p - l.back).msb).foldl
          (fun t l => givePortion l.lot t) stepped))))

/-- The stall observations of MILL (R89 to R92): saturation stops the measurement with the speed at 4,095; it, the quiet
interval and the end of the start allowance are stall observations where stalls are watched, none in mode OFF; contact active
begins withholding with the count at 0, and the condition holds again if the latest observation was a stall; release makes no
observation, its count is 0, the condition no longer holds, and RECOVER and WARN end. That the condition holds again at contact
active with no new observation, by R92, although R169 takes the release as a contrary observation, is the model's choice
(log 37). An expiry and a contact event are taken
as the event, their counts not compared, the model's choice (logs 5 and 7). -/
def Obligations.StallObservationsAreMade : Prop :=
  ∀ (s : State) (r : Role), Works r s →
    let watched := r = .mill ∧ s.cc.runLevel = true ∧ s.cc.withholding = false
    let observes : Bool := decide ((mon s .carrierStall).mode ≠ none ∧ (mon s .carrierStall).mode ≠ some .off)
    let stalled (u : State) : State :=
      observe .carrierStall { u with cc := { u.cc with quietCycles := 0, lastStall := observes } }
    let saturated : State := { s with cc := { s.cc with speed := 4095, measure := none, quietCycles := 0 } }
    ((r = .tip ∨ r = .mill) → s.cc.measure ≠ none →
      exec .speedSaturation s = .next (if watched then stalled saturated else saturated)) ∧
    (watched → s.cc.measure = none → exec .stallQuietInterval s = .next (stalled s)) ∧
    (r = .mill → s.cc.runLevel = false →
      let u : State := { s with cc := { s.cc with
        runLevel := true, runSteady := 0, withholding := true, runPulses := 0, allowanceMs := 0 } }
      exec .runContactActive s =
        .next (setMon .carrierStall { mon s .carrierStall with count := 0, condition := s.cc.lastStall } u)) ∧
    (r = .mill → s.cc.runLevel = true →
      exec .runContactRelease s = .next (endingEvent .carrierStall (observeContrary .carrierStall
        { s with cc := { s.cc with runLevel := false, runSteady := 0, withholding := false, allowanceMs := 0 } }))) ∧
    (r = .mill → s.cc.withholding = true →
      exec .startAllowanceExpiry s = .next (stalled { s with cc := { s.cc with withholding := false } }))

/-! ### The crush line -/

/-- A TIP notice at MILL (R97 to R103): a duplicate is counted as malformed; otherwise the mass is the pending net of
a single-bin key, or the part mass; the lot is written off with 32 in the list, or enters at its window behind its
equals, and one whose front has passed gives the positions passed at once, as a late entry. Lots are held in order of
front: what stands before a new lot is not behind it, what stands next after it is, and nothing else moves (R95).
After a frame the line is ACTIVE and the receiver waits for quiet, as log 9 reads R2 and R12. PEER-SILENT is decided
right after the table, before the unit's own events, as log 14 reads R18. -/
def Obligations.TipNoticesEnterLots : Prop :=
  (∀ (h : FrameHeader) (p : List Byte) (s : State) (n : TipNotice), Works .mill s → Passes .tip h s →
    readTip p = some n →
    let u := heard .tip h 4 p s
    ((∃ l ∈ s.cl.lots, l.lot = n.lot) → exec (.receiveTip h p) s = .next { u with li := malformedCounted u }) ∧
    ((∀ l ∈ s.cl.lots, l.lot ≠ n.lot) →
      let pending := if n.lot.k = 1 ∧ n.lot.m = 1 ∧ n.lot.key.synthetic = false then
        s.cl.pendingNets.find? (·.key = n.lot.key) else none
      let mass := (pending.map (·.net)).getD n.mass
      let nets := if pending.isSome then s.cl.pendingNets.filter (·.key ≠ n.lot.key) else s.cl.pendingNets
      let front : Position := s.cc.p - BitVec.ofNat 32 n.ageStart + BitVec.ofNat 32 n.distance
      let back : Position :=
        if n.ageStart = n.ageEnd then front + 1 else s.cc.p - BitVec.ofNat 32 n.ageEnd + BitVec.ofNat 32 n.distance
      let span := (back - front).toNat
      let late := (front - s.cc.p).msb
      let flags : LotFlags := { LotFlags.clear with
        synthetic := n.flags.synthetic, grossUnknown := n.flags.grossUnknown, ageSaturated := n.flags.ageSaturated
        positionSuspect := n.flags.positionSuspect || (mon u .reverseOverrun).active, netCorrected := pending.isSome }
      let entered (lateEntry : Bool) : State := { u with cl := { s.cl with
        pendingNets := nets
        lots := insertLot ⟨n.lot, front, back, span, span, mass, 0, 0, 0, 0, 0, .onCarrier,
          { flags with lateEntry := lateEntry }⟩ s.cl.lots
        entered := s.cl.entered + BitVec.ofNat 32 mass } }
      (32 ≤ s.cl.lots.length →
        let v : State := { u with cl := { s.cl with
          pendingNets := nets
          entered := s.cl.entered + BitVec.ofNat 32 mass, writtenOff := s.cl.writtenOff + BitVec.ofNat 32 mass } }
        exec (.receiveTip h p) s = .next (offer (.lotCrushed ⟨n.lot, 0, 0, 0, { flags with notTracked := true },
          .notTracked, 0⟩) none (emit (.notTracked n.lot mass) v))) ∧
      (s.cl.lots.length < 32 → late = false → exec (.receiveTip h p) s = .next (entered false)) ∧
      (s.cl.lots.length < 32 → late = true →
        exec (.receiveTip h p) s =
          .next (Nat.iterate (givePortion n.lot) (min (s.cc.p - front).toNat span) (entered true))))) ∧
  (∀ (l : Lot) (lots : List Lot), ∃ before after, lots = before ++ after ∧ insertLot l lots = before ++ l :: after ∧
    (∀ x ∈ before, (l.front - x.front).msb = false) ∧ (∀ x, after.head? = some x → (l.front - x.front).msb = true))

/-- One portion at the mouth (R94, R105, R106): M_rem over S_rem rounded down, the whole at the last position, moved
into the lot's share of the open breakdown; a ninth share closes the period first, by force. That the forced close runs
before the portion is divided off is the model's reading (log 20): R104 computes the portion first. -/
def Obligations.PortionsEnterShares : Prop :=
  ∀ (s : State) (before after : List Lot) (l : Lot), s.cl.lots = before ++ l :: after → (∀ x ∈ before, x.lot ≠ l.lot) →
    let portion := if l.spanRem ≤ 1 then l.massRem else l.massRem / l.spanRem
    let given : Lot := { l with
      massRem := l.massRem - portion, spanRem := l.spanRem - 1, crushed := l.crushed + portion
      state := if l.spanRem ≤ 1 then .draining else .crushing }
    let moved (l' : Lot) (shares : List Share) : State := { s with
      cl := { s.cl with lots := before ++ l' :: after, crushed := s.cl.crushed + BitVec.ofNat 32 portion }
      ja := { s.ja with shares := shares } }
    let held := ∃ sh ∈ s.ja.shares, sh.lot = l.lot
    (held → givePortion l.lot s =
      moved given (s.ja.shares.map fun sh => if sh.lot = l.lot then ⟨sh.lot, sh.mass + portion⟩ else sh)) ∧
    (¬ held → s.ja.shares.length < 8 → givePortion l.lot s = moved
      { given with outstanding := l.outstanding + 1, shareCount := min (l.shareCount + 1) 65535 }
      (s.ja.shares ++ [⟨l.lot, portion⟩])) ∧
    (¬ held → 8 ≤ s.ja.shares.length → givePortion l.lot s = givePortion l.lot (closePeriod true s))

/-- Masses are divided exactly: the part masses of an arming make up its total, the remainder in part 1 (R75), and the
portions of a lot sum to the mass it held, rise by at most 1 kg, and leave it DRAINING and empty (R94, R105). -/
def Obligations.MassesAreDividedExactly : Prop :=
  (∀ total m : Nat, 1 ≤ m →
    (partMasses total m).length = m ∧ (partMasses total m).sum = total ∧
    (partMasses total m).head? = some (total / m + total % m) ∧
    ∀ x ∈ (partMasses total m).drop 1, x = total / m) ∧
  ∀ l : Lot, 1 ≤ l.spanRem →
    let after (i : Nat) : Lot := Nat.iterate Lot.afterPortion i l
    (∀ i, i ≤ l.spanRem →
      (after i).spanRem = l.spanRem - i ∧ (after i).crushed + (after i).massRem = l.crushed + l.massRem) ∧
    (∀ i, i < l.spanRem →
      l.massRem / l.spanRem ≤ (after i).portion ∧ (after i).portion ≤ l.massRem / l.spanRem + 1) ∧
    (∀ i, i + 1 < l.spanRem → (after i).portion ≤ (after (i + 1)).portion) ∧
    (after l.spanRem).massRem = 0 ∧ (after l.spanRem).state = .draining ∧
    (after l.spanRem).crushed = l.crushed + l.massRem

/-- A NET at MILL (R109 to R113): the first single-bin lot of the key takes the net by its state, the difference
joining corrections; lots of several bins ignore it; with no lot it is held in the pending-net table, at 16 in place
of the oldest, with a count. After a frame the line is ACTIVE and the receiver waits for quiet, as log 9 reads R2 and
R12. PEER-SILENT is decided right after the table, before the unit's own events, as log 14 reads R18. -/
def Obligations.NetsCorrectLots : Prop :=
  ∀ (h : FrameHeader) (p : List Byte) (s : State) (n : NetNotice), Works .mill s → Passes .exit h s →
    readNet p = some n →
    let u := heard .exit h 3 p s
    let single (l : Lot) : Prop := l.lot.key = n.key ∧ l.lot.m = 1
    (∀ before l after, s.cl.lots = before ++ l :: after → single l → (∀ x ∈ before, ¬ single x) →
      let corrected (l' : Lot) : State := { u with cl := { s.cl with
        lots := before ++ l' :: after
        corrections := s.cl.corrections + (BitVec.ofNat 32 l'.massRem - BitVec.ofNat 32 l.massRem) } }
      (l.state = .onCarrier → exec (.receiveNet h p) s = .next
        (corrected { l with massRem := n.net, flags := { l.flags with netCorrected := true } })) ∧
      (l.state = .crushing → exec (.receiveNet h p) s = .next (corrected { l with
        massRem := n.net - l.crushed
        flags := { l.flags with
          netCorrected := true, overCredited := l.flags.overCredited || decide (n.net < l.crushed) } })) ∧
      (l.state = .draining → exec (.receiveNet h p) s = .next u)) ∧
    ((∀ x ∈ s.cl.lots, ¬ single x) → (∃ x ∈ s.cl.lots, x.lot.key = n.key) → exec (.receiveNet h p) s = .next u) ∧
    ((∀ x ∈ s.cl.lots, x.lot.key ≠ n.key) →
      let nets := s.cl.pendingNets
      let heldAs (t : List PendingNet) : CrushLine := { s.cl with pendingNets := t }
      ((∃ e ∈ nets, e.key = n.key) → exec (.receiveNet h p) s =
        .next { u with cl := heldAs (nets.map fun e => if e.key = n.key then ⟨e.key, n.net⟩ else e) }) ∧
      ((∀ e ∈ nets, e.key ≠ n.key) → nets.length < 16 →
        exec (.receiveNet h p) s = .next { u with cl := heldAs (nets ++ [⟨n.key, n.net⟩]) }) ∧
      ((∀ e ∈ nets, e.key ≠ n.key) → 16 ≤ nets.length →
        exec (.receiveNet h p) s =
          .next { u with cl := heldAs (nets.drop 1 ++ [⟨n.key, n.net⟩]), li := malformedCounted u }))

/-! ### The juice attributor -/

/-- The apportionment of A kg (R132, R133): over shares in lot order with a sum above 0, the first credits are the products
divided by the sum, the leftover goes 1 kg each to the largest fractions, equal ones in lot order, and the credits sum to A;
`inLotOrder` is that lot order, the shares as their lots stand in the list. Each credit joins its lot's figure, which
saturates (R134), the estimate with its flag (R138), and each share of an attributed breakdown counts its lot's outstanding
down by 1 (R130). -/
def Obligations.ApportionmentIsExact : Prop :=
  (∀ (a : Nat) (shares : List Share), 0 < (shares.map (·.mass)).sum →
    let total := (shares.map (·.mass)).sum
    let first := shares.map fun sh => (sh.lot, a * sh.mass / total, a * sh.mass % total)
    let out := apportion a shares
    let left := a - (first.map fun x => x.2.1).sum
    (out.map (·.credit)).sum = a ∧ left < shares.length ∧ (first.map fun x => x.2.2).sum = total * left ∧
    (∃ order : List (LotKey × Nat × Nat), order.Perm first ∧ order.Pairwise (fun x y => y.2.2 ≤ x.2.2) ∧
      (∀ f, order.filter (fun x => x.2.2 == f) = first.filter (fun x => x.2.2 == f)) ∧
      out.map (fun c => (c.lot, c.fraction)) = order.map (fun x => (x.1, x.2.2)) ∧
      out.map (·.credit) = (order.take left).map (fun x => x.2.1 + 1) ++ (order.drop left).map (fun x => x.2.1)) ∧
    ∀ c ∈ out, c.fraction = 0 → (c.lot, c.credit, 0) ∈ first) ∧
  (∀ (lots : List Lot) (shares : List Share), lots.Pairwise (fun a b => a.lot ≠ b.lot) →
    shares.Pairwise (fun a b => a.lot ≠ b.lot) → (∀ sh ∈ shares, ∃ l ∈ lots, l.lot = sh.lot) →
    inLotOrder lots shares = lots.filterMap fun l => shares.find? (·.lot = l.lot)) ∧
  ∀ (cs : List Credit) (shares : List Share) (lots : List Lot), lots.Pairwise (fun a b => a.lot ≠ b.lot) →
    let sumFor (k : LotKey) : Nat := ((cs.filter (·.lot = k)).map (·.credit)).sum
    let has (k : LotKey) : Bool := cs.any (·.lot = k)
    creditLots .measured cs lots = lots.map (fun l =>
      if has l.lot then { l with creditedMeasured := min (l.creditedMeasured + sumFor l.lot) 16777215 } else l) ∧
    creditLots .estimated cs lots = lots.map (fun l =>
      if has l.lot then { l with
        creditedEstimated := min (l.creditedEstimated + sumFor l.lot) 16777215
        flags := { l.flags with estimated := true } } else l) ∧
    countDown shares lots = lots.map fun l =>
      { l with outstanding := l.outstanding - (shares.filter (·.lot = l.lot)).length }

/-- The reference extraction (R140): it moves toward r by the step, 1 inside the window, halved but at least 1 for a lower r
with asymmetric set, never past r, and stays within 0 to 1500; entry to RUN sets it and a day end keeps it. -/
def Obligations.ReferenceExtractionMovesToward : Prop :=
  (∀ (c : Settings) (m : MillSettings) (s : State), c.forRole = .mill m → (enterRun c s).ja.rref = m.initialRref) ∧
  (∀ (n : DayEndNotice) (s : State), (takeDayEndAtMill n s).ja.rref = s.ja.rref) ∧
  ∀ (m : MillSettings) (r x : Nat), 1 ≤ m.step → r ≤ 1500 → x ≤ 1500 →
    let y := moveRref m r x
    let distance := max r x - min r x
    let full := if distance < m.window then 1 else m.step
    y ≤ 1500 ∧ (r = x → y = x) ∧
    (x < r → y = min r (x + full) ∧ x < y) ∧
    (r < x → m.asymmetric = false → y = max r (x - full) ∧ y < x) ∧
    (r < x → m.asymmetric = true → y = max r (x - max (full / 2) 1) ∧ y < x)

/-- The attribution of J to period `number` (R128 to R130, R134 to R139): unallocated with no breakdown or no cane; with
cane METER-SILENT observes first, and its effect and the policy choose between nothing, the estimate and the measured
path; the breakdown is attributed, its lots count down, and drained lots are released in lot order. That no lot is
released at a close without a breakdown, or with one that holds no share, is read from R130 (log 27). -/
def Obligations.AttributionTakesItsPath : Prop :=
  (∀ (j : Nat) (r : MonitorRec),
    let count := min (r.count + 1) r.qual
    observeJuice j r =
      if r.mode = none ∨ r.mode = some .off then r
      else if 0 < j then
        if r.mode = some .latched then { r with condition := false, count := 0 }
        else { r with condition := false, count := 0, active := false, latched := false }
      else if r.active = true ∨ count < r.qual then { r with condition := true, count := count }
      else { r with condition := true, count := count, active := true, latched := r.mode == some .latched }) ∧
  ∀ (j : Nat) (number : BitVec 32) (s : State),
    let idle (u : State) : State := { u with ja := { u.ja with unallocated := u.ja.unallocated + BitVec.ofNat 32 j } }
    ((∀ b ∈ s.ja.ring, b.number ≠ number) → attribution j number s = idle s) ∧
    (∀ before b after, s.ja.ring = before ++ b :: after → b.number = number → (∀ x ∈ before, x.number ≠ number) →
      let c := (b.shares.map (·.mass)).sum
      let silent := observeJuice j (mon s .meterSilent)
      let u := setMon .meterSilent silent s
      let estimate := c * s.ja.rref / 1000
      let credited (dest : CreditTo) (a : Nat) (v : State) : State := { v with cl := { v.cl with
        lots := creditLots dest (apportion a (inLotOrder v.cl.lots b.shares)) v.cl.lots } }
      let path : State :=
        if c = 0 then idle s
        else if silent.effective = true then
          match (millCfg s).policy with
          | .creditZero => idle u
          | .estimate =>
            let v := credited .estimated estimate (idle u)
            { v with ja := { v.ja with creditedEstimated := v.ja.creditedEstimated + BitVec.ofNat 32 estimate } }
        else
          let v := credited .measured j u
          { v with ja := { v.ja with
            creditedMeasured := v.ja.creditedMeasured + BitVec.ofNat 32 j
            rref := if (millCfg s).minCane ≤ c then moveRref (millCfg s) (min (j * 1000 / c) 1500) v.ja.rref
              else v.ja.rref } }
      let marked : State := { path with ja := { path.ja with
        ring := s.ja.ring.map fun x => if x.number = number then { x with attributed := true } else x } }
      let counted := countDown b.shares marked.cl.lots
      let gone := counted.filter fun l => l.state == .draining && l.outstanding == 0
      let rest := counted.filter fun l => !(l.state == .draining && l.outstanding == 0)
      attribution j number s =
        if b.shares = [] then marked
        else gone.foldl (fun t l => offer (.lotCrushed ⟨l.lot, l.crushed, l.creditedMeasured, l.creditedEstimated,
          l.flags, .crushed, l.shareCount⟩) none t) { marked with cl := { marked.cl with lots := rest } })

/-- A flow pulse is counted, FLOW then having to rise anew, or at 65,535 starts METER-OVERRANGE (R120, R121); the period timer
closes a running period and the pause limit a paused one (R122, R124). A close settles the grams, files the breakdown behind
at most seven others, attributes J to the period of the lag, reports METER-SILENT, opens the next period and ends
METER-OVERRANGE. An expiry is taken as the event, its count not compared, the model's choice (log 5). That the period which
the pause limit opens is paused while CARRIER-STALL holds it, also where a resumption is still to be taken, is the model's
choice between R123 and the last words of R124 (log 36). -/
def Obligations.PeriodsCountAndClose : Prop :=
  ∀ s : State, Works .mill s → s.ja.isOpen = true →
    let grams := s.ja.pulses * (millCfg s).gramsPerPulse + s.ja.residue
    let closed : Breakdown := ⟨s.ja.k, s.ja.shares, false⟩
    let settled (forced : Bool) : State := { s with ja := { s.ja with
      residue := grams % 1000, measured := s.ja.measured + BitVec.ofNat 32 (grams / 1000)
      periods := min (s.ja.periods + 1) 65535
      forced := if forced then min (s.ja.forced + 1) 65535 else s.ja.forced
      ring := (if 8 ≤ s.ja.ring.length then s.ja.ring.drop 1 else s.ja.ring) ++ [closed] } }
    let attributed (forced : Bool) : State :=
      attribution (grams / 1000) (s.ja.k - BitVec.ofNat 32 (millCfg s).lag) (settled forced)
    let reported (forced : Bool) : State :=
      let u := attributed forced
      if (mon u .meterSilent).active = (mon s .meterSilent).active then u
      else emit (.monitor .meterSilent (mon u .meterSilent).active) u
    let opened (forced : Bool) : State :=
      let u := reported forced
      conditionEnds .meterOverrange { u with ja := { u.ja with
        isOpen := true, k := s.ja.k + 1, shares := [], pulses := 0, runningMs := 0, pausedMs := 0
        isPaused := (mon s .carrierStall).effective } }
    let fallen : State := { s with ja := { s.ja with flowTicks := none } }
    (s.ja.pulses < 65535 →
      exec .flowPulse s = .next { fallen with ja := { fallen.ja with pulses := s.ja.pulses + 1 } }) ∧
    (65535 ≤ s.ja.pulses → exec .flowPulse s = .next (conditionStarts .meterOverrange fallen)) ∧
    (s.ja.isPaused = false → exec .periodTimerExpiry s = .next (opened false)) ∧
    (s.ja.isPaused = true → exec .pauseLimitExpiry s = .next (opened false)) ∧
    closePeriod true s = opened true

/-! ### The laboratory -/

/-- GROSS, NET and LOT-CRUSHED at LAB (R146 to R149, R154): a notice of a stored or READY key, a second NET, a part
received or of another m, and a new key with 48 entries are counted as malformed; otherwise the OPEN entry, or a new
one, takes it. After a frame the line is ACTIVE and the receiver waits for quiet, as log 9 reads R2 and R12.
PEER-SILENT is decided right after the table, before the unit's own events, as log 14 reads R18. -/
def Obligations.LabTakesNoticesByKey : Prop :=
  ∀ (s : State) (h : FrameHeader) (p : List Byte), Works .lab s →
    let group (plate : Plate) (grower gross : Nat) (e : AsmEntry) : Option GrossGroup :=
      if e.gross.isSome then e.gross else some ⟨plate, grower, gross⟩
    let decided (c : Instr) (sender : Role) (kind : Nat) (key : Key) (turnedAway : AsmEntry → Prop)
        (taken : AsmEntry → AsmEntry) : Prop :=
      let u := heard sender h kind p s
      let stored := ∃ r, .cons r ∈ s.ra.store ∧ r.key = key
      let blank : AsmEntry := ⟨key, none, none, none, [], 0, 0, 0, { LotFlags.clear with synthetic := key.synthetic },
        none, false, 0, none, none⟩
      let counted := exec c s = .next { u with li := malformedCounted u }
      (stored → counted) ∧
      (∀ e, ¬ stored → s.ra.table.find? (·.key = key) = some e →
        (e.closed ≠ none ∨ turnedAway e → counted) ∧
        (e.closed = none → ¬ turnedAway e → exec c s = .next (applied (taken e) u))) ∧
      (¬ stored → (∀ e ∈ s.ra.table, e.key ≠ key) →
        (48 ≤ s.ra.table.length → counted) ∧
        (s.ra.table.length < 48 →
          exec c s = .next (applied (taken blank) { u with ra := { s.ra with table := s.ra.table ++ [blank] } })))
    (∀ n, Passes .entry h s → readGross h.station p = some n →
      decided (.receiveGross h p) .entry 2 n.key (fun _ => False) fun e =>
        { e with gross := group n.plate n.grower n.gross e }) ∧
    (∀ n, Passes .exit h s → readNet p = some n →
      decided (.receiveNet h p) .exit 3 n.key (fun e => e.net ≠ none) fun e =>
        { e with net := some ⟨n.tare, n.net, n.basis⟩, gross := group n.plate n.grower n.gross e }) ∧
    (∀ n, Passes .mill h s → readLotCrushed p = some n →
      decided (.receiveLotCrushed h p) .mill 5 n.lot.key
        (fun e => (∃ m, e.m = some m ∧ m ≠ n.lot.m) ∨ n.lot.k ∈ e.parts) fun e =>
        { e with
          m := some n.lot.m, parts := e.parts ++ [n.lot.k], crushed := e.crushed + n.crushed
          creditedMeasured := e.creditedMeasured + n.creditedMeasured
          creditedEstimated := e.creditedEstimated + n.creditedEstimated, flags := e.flags.or n.flags
          completionMs := if e.m = none then some 0 else e.completionMs })

/-- An item taken is kept in its entry, or opens one at the table's end (R146, R151); the entry closes COMPLETE at once when
every part, the net and the analysis are there (R154); a closing makes the record, counts it in the day totals and makes it
ready (R155, R166). The record carries the parts' sums, the mass basis, the juice, the analysis figures and its flags (R155 to
R158). -/
def Obligations.ClosingsMakeTheRecord : Prop :=
  (∀ (e : AsmEntry) (s : State) (cause : CloseCause) (before after : List AsmEntry),
    (∃ old, s.ra.table = before ++ old :: after ∧ old.key = e.key ∧ s.ra.table.Pairwise (fun a b => a.key ≠ b.key)) ∨
      (s.ra.table = before ∧ after = [] ∧ ∀ x ∈ before, x.key ≠ e.key) →
    let kept : State := { s with ra := { s.ra with table := before ++ e :: after } }
    let complete := (∃ m, e.m = some m ∧ ∀ i, 1 ≤ i → i ≤ m → i ∈ e.parts) ∧ e.net ≠ none ∧ e.analysis ≠ none
    let r := closeRecord cause e
    let t := s.ra.totals
    (¬ complete → applied e s = kept) ∧ (complete → applied e s = closeEntry .complete e kept) ∧
    closeEntry cause e s = makeReady (.cons r) { s with ra := { s.ra with
      table := before ++ { e with closed := some r } :: after
      totals := ⟨min (t.records + 1) 65535, min (t.netSum + (e.net.map (·.net)).getD 0) 4294967295,
        min (t.juiceSum + r.juice) 4294967295, min (t.sucroseSum + (r.analysis.map (·.sucrose)).getD 0) 4294967295⟩ } }) ∧
  (∀ (cause : CloseCause) (e : AsmEntry),
    let r := closeRecord cause e
    let juice := e.creditedMeasured + e.creditedEstimated
    let perTonne (x : Nat) : Nat := if r.massBasis = 0 then 0 else x * 1000 / r.massBasis
    r.key = e.key ∧ r.cause = cause ∧ r.gross = e.gross ∧ r.net = e.net ∧ r.lotFlags = e.flags ∧
    r.parts = e.parts.length ∧ r.m = e.m.getD 0 ∧ r.crushed = e.crushed ∧
    r.creditedMeasured = e.creditedMeasured ∧ r.creditedEstimated = e.creditedEstimated ∧
    (∀ n, e.net = some n → r.massBasis = n.net) ∧ (e.net = none → r.massBasis = e.crushed) ∧
    (r.flags.millBasis = true ↔ e.net = none) ∧ r.juice = juice ∧ r.juicePerTonne = perTonne juice ∧
    (r.flags.basisZero = true ↔ r.massBasis = 0) ∧
    (e.analysis = none → r.analysis = none ∧ r.flags.brixZero = false) ∧
    (∀ a, e.analysis = some a →
      let sucrose := juice * a.pol / 10000
      r.analysis = some ⟨a.brix, a.pol, if a.brix = 0 then 0 else min (a.pol * 1000 / a.brix) 1000, sucrose,
        perTonne sucrose⟩ ∧ (r.flags.brixZero = true ↔ a.brix = 0)) ∧
    r.flags.reanalysed = e.reanalysed ∧
    (r.flags.noAnalysis = true ↔ cause ≠ .complete ∧ e.analysis = none) ∧
    (r.flags.noNet = true ↔ cause ≠ .complete ∧ e.net = none) ∧
    (r.flags.partsMissing = true ↔ cause ≠ .complete ∧ ∀ m, e.m = some m → e.parts.length < m))

/-- The ready list moves into the store while it holds fewer than 256, in order, the others waiting; a record's entry leaves
the table, and the record that brings the store to 256 starts STORE-FULL (R159, R160). -/
def Obligations.ReadyItemsEnterTheStore : Prop :=
  ∀ (c : Closed) (s : State),
    let free := 256 - s.ra.store.length
    let queued := s.ra.ready ++ [c]
    let entering := queued.take free
    let t := makeReady c s
    t.ra.store = s.ra.store ++ entering ∧ t.ra.ready = queued.drop free ∧
    t.ra.table = s.ra.table.filter (fun e => !entering.any fun x => closedKey x == some e.key) ∧
    t.ra.readCount = s.ra.readCount ∧ t.ra.totals = s.ra.totals ∧ t.ra.wait = s.ra.wait ∧
    (s.ra.store.length < 256 → 256 ≤ s.ra.store.length + queued.length →
      t.mu = (conditionStarts .storeFull s).mu ∧ t.fp = (conditionStarts .storeFull s).fp) ∧
    (256 ≤ s.ra.store.length ∨ s.ra.store.length + queued.length < 256 → t.mu = s.mu ∧ t.fp = s.fp) ∧
    t.part = s.part ∧ t.li = s.li ∧ t.pt = s.pt ∧ t.wu = s.wu ∧ t.tu = s.tu ∧ t.cc = s.cc ∧ t.cl = s.cl ∧
    t.ja = s.ja ∧ t.clock = s.clock ∧ t.wires = s.wires ∧ t.pending = s.pending

/-- The laboratory's timers and the DAY-SUMMARY (R152, R153, R165): the completion wait closes an OPEN entry LAPSED,
the not-crushed age one without parts NOT-CRUSHED; the summary of the waited day, or the end of the wait, makes the
day record. An expiry is taken as the event, its count not compared, the model's choice (log 5). After a frame the
line is ACTIVE and the receiver waits for quiet, as log 9 reads R2 and R12. PEER-SILENT is decided right after the
table, before the unit's own events, as log 14 reads R18. -/
def Obligations.LabTimersCloseAndEndTheWait : Prop :=
  ∀ s : State, Works .lab s →
    (∀ key e, s.ra.table.find? (·.key = key) = some e → e.closed = none →
      (e.completionMs ≠ none → exec (.completionTimerExpiry key) s = .next (closeEntry .lapsed e s)) ∧
      (e.parts = [] → exec (.notCrushedAgeExpiry key) s = .next (closeEntry .notCrushed e s)) ∧
      (e.parts ≠ [] → exec (.notCrushedAgeExpiry key) s = .next s)) ∧
    (∀ w, s.ra.wait = some w →
      exec .summaryWaitExpiry s =
        .next (makeReady (.day ⟨w.day, w.totals, none⟩) { s with ra := { s.ra with wait := none } })) ∧
    (∀ h p n, Passes .mill h s → readDaySummary p = some n →
      let u := heard .mill h 7 p s
      ((∀ w, s.ra.wait = some w → w.day ≠ n.day) → exec (.receiveDaySummary h p) s = .next u) ∧
      (∀ w, s.ra.wait = some w → w.day = n.day → exec (.receiveDaySummary h p) s =
        .next (makeReady (.day ⟨w.day, w.totals, some n.counters⟩) { u with ra := { s.ra with wait := none } })))

/-- ANALYSIS (R150, R151): out of range, late and full refuse it in this order; otherwise the key's OPEN entry, or a new
one, takes brix and pol, a second analysis setting REANALYSED. -/
def Obligations.AnalysesJoinTheirEntry : Prop :=
  ∀ (p : List Byte) (s : State), Works .lab s → PortTakes s → p.length = 9 →
    let key := readKey p 0 (field p 4 1 % 2 == 1)
    let a : Analysis := ⟨field p 5 2, field p 7 2⟩
    let inRange := key.seq ≠ 0 ∧ (key.synthetic = true ∨ key.day ≠ 0) ∧ a.brix ≤ 3000 ∧ a.pol ≤ 2500 ∧ a.pol ≤ a.brix
    let entry := s.ra.table.find? (·.key = key)
    let isLate := (∃ r, .cons r ∈ s.ra.store ∧ r.key = key) ∨ ∃ e, entry = some e ∧ e.closed ≠ none
    let taken (e : AsmEntry) : State := answered .analysis .accepted
      (applied { e with analysis := some a, reanalysed := e.reanalysed || e.analysis.isSome } (hunting s))
    (¬ inRange → exec (.analysis p) s = .next { s with fp := repliedTo .analysis .outOfRange s }) ∧
    (inRange → isLate → exec (.analysis p) s = .next { s with fp := repliedTo .analysis .late s }) ∧
    (inRange → ¬ isLate → entry = none → 48 ≤ s.ra.table.length →
      exec (.analysis p) s = .next { s with fp := repliedTo .analysis .full s }) ∧
    (∀ e, inRange → ¬ isLate → entry = some e → exec (.analysis p) s = .next (taken e)) ∧
    (inRange → ¬ isLate → entry = none → s.ra.table.length < 48 → exec (.analysis p) s = .next (taken
      ⟨key, none, none, none, [], 0, 0, 0, { LotFlags.clear with synthetic := key.synthetic }, none, false, 0, none,
        none⟩))

/-- The DAY-END record (R30, R46, R163, R164): BUSY while a wait runs or a day record waits in the ready list; otherwise the
DAY-END is offered, the next day is held with its event, the totals are sampled and zeroed, and the wait starts. -/
def Obligations.DayEndOpensTheNextDay : Prop :=
  ∀ (p : List Byte) (s : State), Works .lab s → PortTakes s → p.length = 0 →
    let waits := s.ra.wait ≠ none ∨ ∃ r, .day r ∈ s.ra.ready
    let next := if s.part.day = 65535 then 1 else s.part.day + 1
    let u := offer (.dayEnd ⟨s.part.day, next⟩) none (hunting s)
    (waits → exec (.dayEnd p) s = .next { s with fp := repliedTo .dayEnd .busy s }) ∧
    (¬ waits → exec (.dayEnd p) s = .next (answered .dayEnd .accepted { u with
      part := { s.part with day := next }
      ra := { s.ra with totals := ⟨0, 0, 0, 0⟩, wait := some ⟨s.part.day, s.ra.totals, 0⟩ }
      fp := (emit (.dayChanged s.part.day next) u).fp }))

/-- READ and RELEASE (R161, R162, R186): EMPTY with nothing unread, BUSY with fewer than two free places, else the oldest
unread record and ACCEPTED; a RELEASE of more than the read count is refused, and one taken frees the oldest records. -/
def Obligations.StoredRecordsAreReadAndReleased : Prop :=
  ∀ (p : List Byte) (s : State), Works .lab s → PortTakes s →
    (p.length = 0 →
      (s.ra.store.length ≤ s.ra.readCount → exec (.read p) s = .next { s with fp := repliedTo .read .empty s }) ∧
      (∀ c, s.ra.store[s.ra.readCount]? = some c →
        (15 ≤ s.fp.out.length → exec (.read p) s = .next { s with fp := repliedTo .read .busy s }) ∧
        (s.fp.out.length < 15 →
          let item :=
            match c with
            | .cons r => OutItem.consignmentRecord r
            | .day r => OutItem.dayRecord r
          exec (.read p) s = .next { s with
            ra := { s.ra with readCount := s.ra.readCount + 1 }
            fp := { s.fp with rx := .hunt, out := s.fp.out ++ [item, .reply 0x42 .accepted 0] } }))) ∧
    (p.length = 2 →
      let n := field p 0 2
      let freed : State := { hunting s with ra := { s.ra with
        store := s.ra.store.drop n, readCount := s.ra.readCount - n } }
      (s.ra.readCount < n → exec (.release p) s = .next { s with fp := repliedTo .release .outOfRange s }) ∧
      (n ≤ s.ra.readCount →
        let u := moveReady freed
        exec (.release p) s = .next (answered .release .accepted
          (if u.ra.store.length < 256 then conditionEnds .storeFull u else u))))

/-- "READ moves no record" and nothing but a RELEASE, an entry to RUN or a reset removes one (R144, R159, R161, R162). -/
def Obligations.StoredRecordsStayUntilReleased : Prop :=
  ∀ (c : Instr) (s t : State), exec c s = .next t → isReset c = false →
    (∀ p, c ≠ .configure p ∧ c ≠ .restart p ∧ c ≠ .release p) →
    (∃ entered, t.ra.store = s.ra.store ++ entered) ∧ s.ra.readCount ≤ t.ra.readCount

/-! ### The field port and the monitors -/

/-- An event is dropped and counted with 15 places taken, and placed otherwise (R186); a monitor that becomes active or
ends does so once, with its event, and CARRIER-STALL pauses the period (R123, R169, R170, R172); OFF observes nothing. -/
def Obligations.MonitorsActivateAndEnd : Prop :=
  (∀ (ev : OutItem) (s : State), emit ev s = { s with fp :=
    if 15 ≤ s.fp.out.length then { s.fp with eventsDropped := min (s.fp.eventsDropped + 1) 65535 }
    else { s.fp with out := s.fp.out ++ [ev] } }) ∧
  ∀ (i : MonitorId) (s : State),
    let r := mon s i
    let turned (r' : MonitorRec) : State :=
      emit (.monitor i r'.active) { s with
        mu := ⟨s.mu.recs.set i.idx r'⟩
        ja := if i = .carrierStall then { s.ja with isPaused := s.ja.isOpen && r'.effective } else s.ja }
    let kept (r' : MonitorRec) : State := { s with mu := ⟨s.mu.recs.set i.idx r'⟩ }
    let count := min (r.count + 1) r.qual
    conditionStarts i s = (if r.active then kept { r with condition := true } else
      turned { r with condition := true, active := true, latched := r.mode == some .latched }) ∧
    conditionEnds i s = (if r.active then turned { r with condition := false, active := false, latched := false } else
      kept { r with condition := false }) ∧
    (r.mode = none ∨ r.mode = some .off → observe i s = s ∧ observeContrary i s = s) ∧
    (r.mode ≠ none → r.mode ≠ some .off →
      observe i s = (if r.active = true ∨ count < r.qual then kept { r with condition := true, count := count } else
        turned { r with condition := true, count := count, active := true, latched := r.mode == some .latched }) ∧
      observeContrary i s = kept { r with condition := false, count := 0 }) ∧
    endingEvent i s = (if r.active = true ∧ (r.mode = some .recover ∨ r.mode = some .warn) then
      turned { r with active := false, latched := false } else s)

/-- What is not a complete record of a known kind (R182 to R184, R187): a discard is counted, a bad checksum is refused with
FORMAT and an unknown kind with UNKNOWN, with no other effect; in the hold everything is lost; an item sent frees its place,
and the receiver held by 16 places resumes. That these commands are taken in every state of the receiver, HUNT included, where
R181 and R182 discard from KIND to CHECK only, is the model's choice: from HUNT the row stands for the whole record (log 11). That a gap, a discard or a bad checksum in the hold has no count and no reply is
the model's reading (log 24). OUTBOUND_ITEM_SENT and RECORD_GAP_TIMEOUT are taken as the events, their times not compared, the
model's choice (log 5). The receiver, byte by byte (R181, R182): HUNT takes A5h alone, KIND any byte, LENGTH at most 60,
PAYLOAD its bytes, and CHECK ends the record by its sum and its kind; a framing error discards the record inside one and is
ignored in HUNT; in the hold and in POWER-UP bytes are lost (R187, R35). A byte starts the gap anew, and one that comes more
than 50 ms after the last finds RECORD_GAP_TIMEOUT queued before it (R182). The pins that bring the bytes hold the ten levels
of each, which is the model's choice (log 35). -/
def Obligations.BadRecordsAreCountedOrRefused : Prop :=
  (∀ s : State, PortTakes s →
    let refused (kind : Byte) (code : ReplyCode) : State :=
      { s with fp := { s.fp with rx := .hunt, out := s.fp.out ++ [.reply kind code 0] } }
    let discarded : State := { s with fp := { s.fp with
      rx := .hunt, discarded := min (s.fp.discarded + 1) 65535 } }
    exec .recordGapTimeout s = .next discarded ∧ exec .recordDiscard s = .next discarded ∧
    (∀ kind, exec (.recordChecksumError kind) s = .next (refused kind .format)) ∧
    (∀ kind : Byte, (∀ k : RecordKind, k.code ≠ kind.toNat) →
      exec (.recordUnknownKind kind) s = .next (refused kind .unknown))) ∧
  (∀ (c : Instr) (s : State), ¬ PortTakes s →
    (asRecord c ≠ none ∨ c = .recordGapTimeout ∨ c = .recordDiscard ∨ (∃ kind, c = .recordChecksumError kind) ∨
      ∃ kind, c = .recordUnknownKind kind) → exec c s = .next s) ∧
  (∀ (s : State) (it : OutItem) (rest : List OutItem), s.part.stationState ≠ .powerUp → s.fp.out = it :: rest →
    exec .outboundItemSent s = .next { s with fp := { s.fp with
      out := rest, outTicks := 0, rx := if 16 ≤ s.fp.out.length then .hunt else s.fp.rx } }) ∧
  (∀ (code b : Byte) (n : Nat) (taken p : List Byte),
    let bits := (List.range 8).map fun i => b.getLsbD i
    let sum := (code + BitVec.ofNat 8 p.length + p.foldl (· + ·) 0 + b).toNat
    let known := ∃ k : RecordKind, k.code = code.toNat
    readSerial ([false] ++ bits ++ [true]) = some (b, true) ∧ readSerial ([false] ++ bits ++ [false]) = some (b, false) ∧
    FieldRx.stopped.take b true = (.stopped, []) ∧
    FieldRx.hunt.take b true = (if b = 0xA5 then .kind else .hunt, []) ∧
    FieldRx.kind.take b true = (.length b, []) ∧
    (60 < b.toNat → (FieldRx.length code).take b true = (.length code, [.recordDiscard])) ∧
    (b = 0 → (FieldRx.length code).take b true = (.check code [], [])) ∧
    (b ≠ 0 → b.toNat ≤ 60 → (FieldRx.length code).take b true = (.payload code b.toNat [], [])) ∧
    (taken.length + 1 < n → (FieldRx.payload code n taken).take b true = (.payload code n (taken ++ [b]), [])) ∧
    (n ≤ taken.length + 1 → (FieldRx.payload code n taken).take b true = (.check code (taken ++ [b]), [])) ∧
    (sum ≠ 0 → (FieldRx.check code p).take b true = (.hunt, [.recordChecksumError code])) ∧
    (sum = 0 → ¬ known → (FieldRx.check code p).take b true = (.hunt, [.recordUnknownKind code])) ∧
    (∀ k : RecordKind, sum = 0 → k.code = code.toNat →
      ∃ c, (FieldRx.check code p).take b true = (.hunt, [c]) ∧ asRecord c = some (k, p)) ∧
    FieldRx.stopped.take b false = (.stopped, []) ∧ FieldRx.hunt.take b false = (.hunt, []) ∧
    ∀ rx : FieldRx, rx ≠ .stopped → rx ≠ .hunt → rx.take b false = (rx, [.recordDiscard])) ∧
  (∀ s : State, s.pending = [] → s.part.resetLow = false → PortTakes s → s.fp.rx ≠ .stopped → s.fp.rx ≠ .hunt →
    25000 < s.fp.gapTicks →
    ∃ commands, step s = .next { s with pending := commands } ∧ .recordGapTimeout ∈ commands) ∧
  ∀ s : State,
    (s.wires.rxd = [] → tickSerial s = s) ∧
    ∀ next rest, s.wires.rxd = next :: rest →
      let left : Wires := { s.wires with rxd :=
        match rest with
        | [] => []
        | b :: more => ⟨b.wait - 1, b.levels⟩ :: more }
      (next.wait ≠ 0 →
        tickSerial s = { s with wires := { s.wires with rxd := { next with wait := next.wait - 1 } :: rest } }) ∧
      (next.wait = 0 → ¬ PortTakes s ∨ readSerial next.levels = none → tickSerial s = { s with wires := left }) ∧
      ∀ b stop, next.wait = 0 → PortTakes s → readSerial next.levels = some (b, stop) →
        tickSerial s = { s with
          fp := { s.fp with rx := (s.fp.rx.take b stop).1, gapTicks := 0 }
          wires := left, pending := s.pending ++ (s.fp.rx.take b stop).2 }

/-- The order in which a record is refused (R184, Table 10-1): CONFIGURE outside CONFIG, strap MUTE, role, length, state.
The reply is the only effect. A record is taken as its row's command, whatever state the receiver is in, the model's choice
(log 11). -/
def Obligations.RecordsAreRefusedInOrder : Prop :=
  ∀ (c : Instr) (k : RecordKind) (p : List Byte) (s : State), asRecord c = some (k, p) → PortTakes s →
    let st := s.part.stationState
    let weighs := s.part.role = some .entry ∨ s.part.role = some .exit
    let served : Prop :=
      match k with
      | .configure | .statusRequest | .clear | .clearFresh | .restart => True
      | .vehicle | .weight => weighs
      | .withdraw => weighs ∨ s.part.role = some .tip
      | .assign | .disarm => s.part.role = some .tip
      | .analysis | .dayEnd | .read | .release => s.part.role = some .lab
    let lengths : List Nat :=
      match k, s.part.role with
      | .configure, some .entry => [13]
      | .configure, some .exit => [16]
      | .configure, some .tip => [9]
      | .configure, some .mill => [20]
      | .configure, some .lab => [7]
      | .configure, none => []
      | .statusRequest, _ => [0, 1]
      | .vehicle, some .entry => [10]
      | .vehicle, _ => [8]
      | .weight, _ => [4]
      | .withdraw, _ => [1]
      | .assign, _ => [10, 6]
      | .analysis, _ => [9]
      | .release, _ => [2]
      | .clear, _ | .clearFresh, _ | .restart, _ | .disarm, _ | .dayEnd, _ | .read, _ => [0]
    let inState : Prop :=
      match k with
      | .statusRequest => True
      | .configure => st = .config
      | .clearFresh => st = .config ∨ st = .run
      | .clear | .restart | .vehicle | .weight | .withdraw | .assign | .disarm | .analysis | .dayEnd | .read
      | .release => st = .run
    let refused (code : ReplyCode) : Prop := exec c s = .next { s with fp := repliedTo k code s }
    let early := (k = .configure ∧ st ≠ .config) ∨
      (st = .mute ∧ s.part.muteCause = .strap ∧ k ≠ .statusRequest)
    (early → refused .wrongState) ∧
    (¬ early → ¬ served → refused .wrongRole) ∧
    (¬ early → served → p.length ∉ lengths → refused .format) ∧
    (¬ early → served → p.length ∈ lengths → ¬ inState → refused .wrongState)

/-- Entry to RUN (R17, R39, R46, R167): every unit at its reset value, the configured monitors idle with their settings,
the queue empty and the sequence at 255, the started beacon in hand at station 0 or due at 100 ms × the station number;
MILL opens period 1; LAB takes its first day; then PEER-SILENT is decided. The model's choices and readings: DAY-CHANGED
before PEER-SILENT's event (log 17), WAIT-QUIET after SENDING or MARK (log 28), qualification 1 without a mode and k 0
at the other roles (log 6). -/
def Obligations.EntryToRunStartsTheUnits : Prop :=
  ∀ (c : Settings) (s : State),
    let idle (mode : Option Mode) (qual : Nat) : MonitorRec := ⟨mode, qual, 0, false, false, false⟩
    let scale : Option Mode × Nat :=
      match c.forRole with
      | .entry w => (some w.scaleOverMode, w.scaleOverQual)
      | .exit w _ => (some w.scaleOverMode, w.scaleOverQual)
      | .tip _ | .mill _ | .lab _ => (none, 1)
    let stall : Option Mode × Nat :=
      match c.forRole with
      | .mill m => (some m.stallMode, m.stallQual)
      | .entry _ | .exit _ _ | .tip _ | .lab _ => (none, 1)
    let silent : Option Mode × Nat :=
      match c.forRole with
      | .mill m => (some m.silentMode, m.silentQual)
      | .entry _ | .exit _ _ | .tip _ | .lab _ => (none, 1)
    let day :=
      match c.forRole with
      | .lab l => l.firstDay
      | .entry _ | .exit _ _ | .tip _ | .mill _ => s.part.day
    let atZero : Bool := s.part.station == 0
    let started : State := { s with
      part := { s.part with stationState := .run, settings := some c, day := day }
      li := { s.li with
        tx := if atZero then .waiting else .idle
        inHand := if atZero then some .startedBeacon else none
        beaconTimer := if atZero then none else some (100 * s.part.station.val)
        frame := [], txTicks := 0, slotsLeft := 0, partSlot := 0, collisions := 0, queue := [], lastSeq := 255
        startedSent := false
        rx := if s.li.tx = .sending ∨ s.li.tx = .mark then .waitQuiet else s.li.rx }
      pt := ⟨mapTable (fun e => if e.state = .heard ∧ c.silenceSeconds * 1000 ≤ e.sinceMs then
        { e with state := .silent } else e) s.pt.peers, 0⟩
      wu := ⟨.idle, none, false, 0, none, 1, [], []⟩
      tu := ⟨[], [], none, 1, .idle, false, 0, none, false, 0⟩
      cc := ⟨0, 0, 4095, none, false, 0, false, 0, 0, 0, false⟩
      cl := ⟨[], [], 0, 0, 0, 0, 0⟩
      ja :=
        match c.forRole with
        | .mill m => ⟨true, 1, [], 0, 0, 0, 0, false, [], m.initialRref, 0, 0, 0, 0, 0, 0, none⟩
        | .entry _ | .exit _ _ | .tip _ | .lab _ => ⟨false, 0, [], 0, 0, 0, 0, false, [], 0, 0, 0, 0, 0, 0, 0, none⟩
      ra := ⟨[], [], [], 0, none, ⟨0, 0, 0, 0⟩⟩
      mu := ⟨#v[idle scale.1 scale.2, idle stall.1 stall.2, idle (some .recover) 1, idle silent.1 silent.2,
        idle (some .warn) 1, idle (some .warn) 1, idle (some .recover) 8, idle (some .recover) 1]⟩
      fp := if day = s.part.day then s.fp else (emit (.dayChanged s.part.day day) s).fp }
    enterRun c s =
      if peerSilentHolds started then conditionStarts .peerSilent started else conditionEnds .peerSilent started

/-- CONFIGURE and RESTART (R38, R39, R44, R185): the first field that fails its check, in the order of the fields, refuses a
CONFIGURE whole with its number; else its settings are stored at entry to RUN. RESTART removes every outbound item but the one
being sent and re-enters RUN with the stored settings. The fields pass exactly in the ranges of Table 2-6, in field order, and
each is stored with its value. That the head of the outbound queue is always the item being sent is the model's reading (log
19). -/
def Obligations.ConfigureAndRestartEnterRun : Prop :=
  ((∀ (p : List Byte) (s : State) (r : Role), s.part.stationState = .config → s.part.role = some r → PortTakes s →
    p.length = (match r with | .entry => 13 | .exit => 16 | .tip => 9 | .mill => 20 | .lab => 7) →
    (∀ before n after, settingsChecks r p = before ++ (n, false) :: after → (∀ x ∈ before, x.2 = true) →
      exec (.configure p) s =
        .next { s with fp := { s.fp with rx := .hunt, out := s.fp.out ++ [.reply 0x10 .outOfRange n] } }) ∧
    ((∀ x ∈ settingsChecks r p, x.2 = true) →
      exec (.configure p) s = .next (answered .configure .accepted (enterRun (readSettings r p) (hunting s))))) ∧
  ∀ (p : List Byte) (s : State) (r : Role) (c : Settings), Works r s → s.part.settings = some c → PortTakes s →
    p.length = 0 →
    exec (.restart p) s = .next (answered .restart .accepted
      (enterRun c { s with fp := { s.fp with rx := .hunt, out := s.fp.out.take 1 } }))) ∧
  (∀ p : List Byte,
    let f := field p
    let passes (r : Role) : Prop := ∀ x ∈ settingsChecks r p, x.2 = true
    let quals := [1, 2, 4, 8]
    let common := f 1 1 ∈ [5, 10, 30]
    let weigh := 10000 ≤ f 2 3 ∧ f 2 3 ≤ 120000 ∧ 1 ≤ f 5 1 ∧ f 5 1 ≤ 200 ∧ 2 ≤ f 6 1 ∧ f 6 1 ≤ 16 ∧
      f 7 2 ≤ 500 ∧ 100 ≤ f 9 2 ∧ f 9 2 ≤ 20000 ∧ f 9 2 ≤ f 2 3 ∧ f 11 1 ≤ 3 ∧ f 12 1 ∈ quals
    (passes .entry ↔ f 0 1 = 1 ∧ common ∧ weigh) ∧
    (passes .exit ↔ f 0 1 = 2 ∧ common ∧ weigh ∧ f 13 2 ≤ 40000 ∧ 1 ≤ f 15 1 ∧ f 15 1 ≤ 48) ∧
    (passes .tip ↔ f 0 1 = 3 ∧ common ∧ 1 ≤ f 2 2 ∧ f 2 2 ≤ 65535 ∧ f 4 2 ≤ 40000 ∧ f 6 2 ≤ 60000 ∧
      1 ≤ f 8 1 ∧ f 8 1 ≤ 20) ∧
    (passes .mill ↔ f 0 1 = 4 ∧ common ∧ 1 ≤ f 2 2 ∧ f 2 2 ≤ 65535 ∧ f 4 1 ∈ [15, 30, 60, 120] ∧ f 5 1 ≤ 7 ∧
      f 6 1 ≤ 1 ∧ f 7 1 ≤ 3 ∧ f 8 1 ∈ quals ∧ f 9 2 ≤ 1500 ∧ 1 ≤ f 11 1 ∧ f 11 1 ≤ 64 ∧ f 12 1 ≤ 200 ∧ f 13 1 ≤ 1 ∧
      f 14 2 ≤ 5000 ∧ f 16 1 ∈ quals ++ [16] ∧ f 17 1 ≤ 3 ∧ f 18 1 ∈ quals ∧ f 19 1 ∈ quals) ∧
    (passes .lab ↔ f 0 1 = 5 ∧ common ∧ 1 ≤ f 2 2 ∧ f 2 2 ≤ 65535 ∧ 30 ≤ f 4 2 ∧ f 4 2 ≤ 720 ∧ 2 ≤ f 6 1 ∧
      f 6 1 ≤ 48) ∧
    (settingsChecks .entry p).map (·.1) = List.range 9 ∧ (settingsChecks .exit p).map (·.1) = List.range 11 ∧
    (settingsChecks .tip p).map (·.1) = List.range 6 ∧ (settingsChecks .mill p).map (·.1) = List.range 17 ∧
    (settingsChecks .lab p).map (·.1) = List.range 5) ∧
  ∀ p : List Byte,
    let f := field p
    let mode (n : Nat) : Mode := if n = 0 then .latched else if n = 1 then .recover else if n = 2 then .warn else .off
    let weigh : WeighSettings := ⟨f 2 3, f 5 1, f 6 1, f 7 2, f 9 2, mode (f 11 1), f 12 1⟩
    readSettings .entry p = ⟨f 1 1, .entry weigh⟩ ∧
    readSettings .exit p = ⟨f 1 1, .exit weigh ⟨f 13 2, f 15 1⟩⟩ ∧
    readSettings .tip p = ⟨f 1 1, .tip ⟨f 2 2, f 4 2, f 6 2, f 8 1⟩⟩ ∧
    readSettings .mill p = ⟨f 1 1, .mill ⟨f 2 2, f 4 1, f 5 1, if f 6 1 = 0 then .creditZero else .estimate,
      mode (f 7 1), f 8 1, f 9 2, f 11 1, f 12 1, decide (f 13 1 = 1), f 14 2, f 16 1, mode (f 17 1), f 18 1, f 19 1⟩⟩ ∧
    readSettings .lab p = ⟨f 1 1, .lab ⟨f 2 2, f 4 2, f 6 1⟩⟩

/-- STATUS-REQUEST (R177, R186, R189, Table 2-7): a part above 2 is refused, fewer than two free places give BUSY, and else
the part's bytes, every value as it stands, and ACCEPTED are placed. -/
def Obligations.StatusGivesThePart : Prop :=
  ∀ (p : List Byte) (s : State), PortTakes s → p.length ≤ 1 →
    let part := match p with | [] => 0 | b :: _ => b.toNat
    let c := s.li.counters
    let state := match s.part.stationState with | .powerUp => 0 | .config => 1 | .run => 2 | .mute => 3
    let cause := match s.part.muteCause with | .noCause => 0 | .strap => 1 | .duplicateStation => 2 | .duplicateRole => 3
    let role (r : Option Role) : Nat :=
      match r with | none => 0 | some .entry => 1 | some .exit => 2 | some .tip => 3 | some .mill => 4 | some .lab => 5
    let station := [0, BitVec.ofNat 8 state, BitVec.ofNat 8 (role s.part.role),
        BitVec.ofNat 8 (s.part.station.val * 16 + if s.part.fresh then 1 else 0), BitVec.ofNat 8 cause] ++
      be 2 s.part.day ++ be 2 s.mu.summary ++ [BitVec.ofNat 8 s.li.queue.length, BitVec.ofNat 8 s.fp.out.length] ++
      be 2 c.crcError ++ be 2 c.short ++ be 2 c.long ++ be 2 c.codeViolation ++ be 2 c.badSource ++
      be 2 c.noticesLost ++ be 2 c.collisions ++ be 2 c.unknownKind ++ be 2 c.malformed ++ be 2 s.fp.discarded ++
      be 2 s.fp.eventsDropped
    let added :=
      match s.part.role with
      | some .mill => be 4 s.cc.p.toNat ++ be 2 s.cc.debt ++ be 2 s.cc.speed ++ be 2 s.ja.rref
      | some .lab => be 2 s.ra.store.length ++ be 2 (s.ra.store.length - s.ra.readCount) ++
          [BitVec.ofNat 8 s.ra.table.length]
      | some .entry | some .exit | some .tip | none => []
    let entryBytes (e : PeerEntry) : List Byte :=
      let heardAs := match e.state with | .absent => 0 | .heard => 1 | .silent => 2
      let seen := match e.beaconSeen with | .nothing => 0 | .config => 1 | .run => 2
      [BitVec.ofNat 8 (heardAs + role e.role * 4 + (if e.fresh then 32 else 0) + seen * 64),
        BitVec.ofNat 8 e.missed] ++ be 2 e.roleChanges
    let peers (ns : List StationNo) : List Byte := BitVec.ofNat 8 part :: ns.flatMap fun n => entryBytes (peer s n)
    let answer (payload : List Byte) : State := { s with fp := { s.fp with
      rx := .hunt, out := s.fp.out ++ [.status payload, .reply 0x11 .accepted 0] } }
    (2 < part → exec (.statusRequest p) s = .next { s with fp := repliedTo .statusRequest .outOfRange s }) ∧
    (part ≤ 2 → 15 ≤ s.fp.out.length →
      exec (.statusRequest p) s = .next { s with fp := repliedTo .statusRequest .busy s }) ∧
    (s.fp.out.length < 15 →
      (part = 0 → exec (.statusRequest p) s = .next (answer (station ++ added)) ∧ station.length = 33) ∧
      (part = 1 → exec (.statusRequest p) s = .next (answer (peers [0, 1, 2, 3, 4, 5, 6, 7]))) ∧
      (part = 2 → exec (.statusRequest p) s = .next (answer (peers [8, 9, 10, 11, 12, 13, 14, 15]))))

/-- CLEAR (R173, R174): in order of number each latched monitor whose condition is clear ends with its event, the three
counts go to 0, a latched CARRIER-STALL that ends resumes the period, and ACCEPTED follows the events. -/
def Obligations.ClearEndsLatchedMonitors : Prop :=
  ∀ (p : List Byte) (s : State), s.part.stationState = .run → PortTakes s → p.length = 0 → MonitorsSound s →
    let ends (i : MonitorId) : Bool := (mon s i).latched && !(mon s i).condition
    let counted (i : MonitorId) : Bool := i == .scaleOver || i == .carrierStall || i == .meterSilent
    ∃ t, exec (.clear p) s = .next t ∧
      (∀ i, mon t i = { mon s i with
        active := (mon s i).active && !ends i, latched := (mon s i).latched && !ends i
        count := if counted i then 0 else (mon s i).count }) ∧
      t.fp = acceptedAfter .clear ((MonitorId.all.filter ends).map fun i => .monitor i false) s ∧
      t.ja = (if ends .carrierStall then { s.ja with isPaused := false } else s.ja) ∧
      t.part = s.part ∧ t.li = s.li ∧ t.pt = s.pt ∧ t.wu = s.wu ∧ t.tu = s.tu ∧ t.cc = s.cc ∧ t.cl = s.cl ∧
      t.ra = s.ra ∧ t.clock = s.clock ∧ t.wires = s.wires ∧ t.pending = s.pending

/-- CLEAR-FRESH (R42): the flag is cleared in CONFIG and RUN with ACCEPTED, a clear one staying clear, and kept in MUTE with
WRONG-STATE; a frame being sent keeps its header, and the next attempt's header has the flag clear. -/
def Obligations.ClearFreshClearsTheFlag : Prop :=
  ∀ (p : List Byte) (s : State), PortTakes s → p.length = 0 →
    let cleared : State := { s with part := { s.part with fresh := false }, fp := repliedTo .clearFresh .accepted s }
    (s.part.stationState = .config ∨ s.part.stationState = .run →
      exec (.clearFresh p) s = .next cleared ∧ cleared.li.frame = s.li.frame ∧
      ∀ body, bodyInHand cleared = some body → ∃ b rest, body = b :: rest ∧ b.getLsbD 0 = false) ∧
    (s.part.stationState = .mute →
      exec (.clearFresh p) s = .next { s with fp := repliedTo .clearFresh .wrongState s })

/-- WITHDRAW (R4, R9, R11): a position that is empty or not 1 to 8 is refused, a notice whose first attempt has begun is
late, and another leaves the queue; a head that was in hand gives way to the next, LINE-CONGESTION ending. -/
def Obligations.WithdrawRemovesANotice : Prop :=
  ∀ (p : List Byte) (s : State) (r : Role), Works r s → (r = .entry ∨ r = .exit ∨ r = .tip) → PortTakes s →
    p.length = 1 →
    let n := field p 0 1
    (n = 0 ∨ 8 < n ∨ s.li.queue.length < n →
      exec (.withdraw p) s = .next { s with fp := repliedTo .withdraw .outOfRange s }) ∧
    (∀ before e after, s.li.queue = before ++ e :: after → n = before.length + 1 → n ≤ 8 →
      let next := s.li.startedSent && !after.isEmpty
      let u := conditionEnds .lineCongestion (hunting s)
      (e.begun = true → exec (.withdraw p) s = .next { s with fp := repliedTo .withdraw .late s }) ∧
      (e.begun = false → (n ≠ 1 ∨ s.li.inHand ≠ some .queueHead) →
        exec (.withdraw p) s = .next { s with
          li := { s.li with queue := before ++ after }, fp := repliedTo .withdraw .accepted s }) ∧
      (e.begun = false → n = 1 → s.li.inHand = some .queueHead →
        exec (.withdraw p) s = .next { s with
          li := { s.li with
            queue := after, tx := if next then .waiting else .idle, inHand := if next then some .queueHead else none
            frame := [], txTicks := 0, slotsLeft := 0, partSlot := 0, collisions := 0 }
          mu := u.mu, fp := (answered .withdraw .accepted u).fp }))

/-! ### Layouts -/

/-- Every notice with its fields in range, and every beacon, is read back from its payload as it was sent (R25 to R33). A
notice is malformed (R25) exactly when its length is not its kind's (Table 2-2), its source role is not the kind's sending
role (R24), or a field is out of range: the key or lot key (R21, R22), the origin, plate, grower and gross of a GROSS (R26),
those and the tare, basis and figures of a NET (R27), the D, attempt and ages of a TIP (R28), the cause and figures of a
LOT-CRUSHED (R29), the days of a DAY-END and a DAY-SUMMARY (R30, R31), the state, queue depth and speed count of a BEACON
(R32). That nothing else makes a notice malformed, so that an unnamed bit of the lot flags, of a NET's flags byte or of a
beacon's is ignored, is the model's reading of these rules (log 22). -/
def Obligations.NoticesReadBackAsSent : Prop :=
  (∀ (source : StationNo) (sender : Role) (n : Notice), noticeOk source n = true →
    (sendingRole n.kind.code = some sender) →
    readNotice n.kind.code source sender n.payload = some (.notice n)) ∧
  (∀ (source : StationNo) (sender : Role) (b : Beacon), b.day ≤ 65535 → b.queueDepth ≤ 8 → b.speed ≤ 4095 →
    readNotice 1 source sender b.payload = some (.beacon b)) ∧
  ∀ (kind : Nat) (source : StationNo) (sender : Role) (p : List Byte),
    let value (off n : Nat) : Nat := ((p.drop off).take n).foldl (fun v b => v * 256 + b.toNat) 0
    let day := value 0 2
    let seq := value 2 1 / 16 * 256 + value 3 1
    let origin := value 2 1 % 16
    let plateWrong := ∃ b ∈ (p.drop 4).take 8,
      ¬(0x41 ≤ b.toNat ∧ b.toNat ≤ 0x5A ∨ 0x30 ≤ b.toNat ∧ b.toNat ≤ 0x39 ∨ b.toNat = 0x20)
    let weighedWrong := day = 0 ∨ seq = 0 ∨ plateWrong ∨ value 12 2 = 0 ∨ 120000 < value 14 3
    let flag (i : Nat) : Prop := value 15 2 / 2 ^ i % 2 = 1
    let lotWrong := (day = 0 ∧ ¬ flag 0) ∨ seq = 0 ∨ value 4 1 = 0 ∨ value 5 1 < value 4 1 ∨ 3 < value 5 1
    let netAgrees :=
      if value 14 3 < value 17 3 then value 20 3 = 0 ∧ value 24 1 % 2 = 1
      else value 20 3 = value 14 3 - value 17 3 ∧ value 24 1 % 2 = 0
    readNotice kind source sender p = none ↔
      match kind with
      | 1 => p.length ≠ 9 ∨ (value 0 1 ≠ 1 ∧ value 0 1 ≠ 2) ∨ 8 < value 6 1 ∨ 4095 < value 7 2
      | 2 => sender ≠ .entry ∨ p.length ≠ 17 ∨ origin ≠ source.val ∨ weighedWrong
      | 3 => sender ≠ .exit ∨ p.length ≠ 25 ∨ weighedWrong ∨ 120000 < value 17 3 ∨
          ¬(1 ≤ value 23 1 ∧ value 23 1 ≤ 3) ∨ ¬ netAgrees
      | 4 => sender ≠ .tip ∨ p.length ≠ 18 ∨ lotWrong ∨ value 13 2 = 0 ∨ value 17 1 = 0 ∨ value 9 2 < value 11 2
      | 5 => sender ≠ .mill ∨ p.length ≠ 20 ∨ lotWrong ∨ (value 17 1 ≠ 1 ∧ value 17 1 ≠ 2) ∨
          (value 17 1 = 2 ∧ (value 6 3 ≠ 0 ∨ value 9 3 ≠ 0 ∨ value 12 3 ≠ 0 ∨ value 18 2 ≠ 0 ∨ ¬ flag 8))
      | 6 => sender ≠ .lab ∨ p.length ≠ 4 ∨ value 0 2 = 0 ∨
          value 2 2 ≠ (if value 0 2 = 65535 then 1 else value 0 2 + 1)
      | 7 => sender ≠ .mill ∨ p.length ≠ 46 ∨ value 0 2 = 0
      | _ => True

/-- A frame sent is taken as GOOD with its header and payload (R4, R5, R12), its header saying who sent it; every field record
sums to 0 after its start byte, and its length byte counts the payload (R181). The receivers take them from HUNT: the
half-bits of a frame, as levels 2 µs apart on a line that read high, give its reception, and with a wrong CRC the status
CRC-ERROR (R12, R33, Table 2-1); the bytes of a record give its command, and with an unknown kind or a wrong checksum the
refusal's (R182 to R184). The 2 µs are the model's sampling (log 35), and the clock's start at the first transition is its
choice (log 33). The outbound payloads are those of Tables 2-7, 2-8 and 2-10 (R33, R34). -/
def Obligations.FramesAndRecordsCheck : Prop :=
  (∀ (station : StationNo) (r : Role) (fresh : Bool) (kind : Nat) (seq : SeqNo) (payload : List Byte),
    payload.length ≤ 48 → kind < 256 →
    let body := frameBody station (roleCode r) fresh kind seq payload
    ∃ source, takeFrame ((frameBytes body).drop 3) =
        .ok ([source, BitVec.ofNat 8 kind, seq, BitVec.ofNat 8 payload.length], payload) ∧
      source.toNat / 16 = station.val ∧ source.toNat / 2 % 8 = roleCode r ∧ source.getLsbD 0 = fresh) ∧
  (∀ (kind : Nat) (payload : List Byte),
    let record := wireRecord kind payload
    record.head? = some 0xA5 ∧ ((record.drop 1).foldl (· + ·) 0 : Byte) = 0 ∧ record.length = payload.length + 4 ∧
    record[2]? = some (BitVec.ofNat 8 payload.length)) ∧
  (∀ (source kind : Byte) (seq : SeqNo) (payload : List Byte) (crc : BitVec 16), payload.length ≤ 48 →
    let body := [source, kind, seq, BitVec.ofNat 8 payload.length] ++ payload
    let bits := ([0xAA, 0xAA, 0xB4] ++ body ++ be 2 crc.toNat).flatMap byteBits
    let heard := takeAll LineEar.take ⟨.hunt [], none, true⟩ (bits.flatMap fun b => [b, b, b, b, !b, !b, !b, !b])
    (crc ≠ crc16 body → heard.2 = [.frameError .crcError]) ∧
    (crc = crc16 body → ∃ c h, heard.2 = [c] ∧ asFrame c = some (h, kind.toNat, payload) ∧
      h.station.val = source.toNat / 16 ∧ h.roleCode.val = source.toNat / 2 % 8 ∧ h.fresh = source.getLsbD 0 ∧
      h.seq = seq)) ∧
  (∀ (payload : List Byte), payload.length ≤ 60 →
    (∀ k : RecordKind, ∃ c, takeAll FieldRx.takeByte .hunt (wireRecord k.code payload) = (.hunt, [c]) ∧
      asRecord c = some (k, payload)) ∧
    (∀ kind : Byte, (∀ k : RecordKind, k.code ≠ kind.toNat) →
      takeAll FieldRx.takeByte .hunt (wireRecord kind.toNat payload) = (.hunt, [.recordUnknownKind kind])) ∧
    (∀ kind sum : Byte, (wireRecord kind.toNat payload).getLast? ≠ some sum →
      takeAll FieldRx.takeByte .hunt ((wireRecord kind.toNat payload).dropLast ++ [sum]) =
        (.hunt, [.recordChecksumError kind]))) ∧
  (∀ item : OutItem,
    let keyBytes' (k : Key) : List Byte :=
      be 2 k.day ++ [BitVec.ofNat 8 (k.seq / 256 * 16 + k.origin.val), BitVec.ofNat 8 (k.seq % 256)]
    let named (k : Key) : List Byte := keyBytes' k ++ [if k.synthetic then 1 else 0]
    let lotNamed (l : LotKey) : List Byte := named l.key ++ [BitVec.ofNat 8 l.k, BitVec.ofNat 8 l.m]
    let kindByte (n : NoticeKind) : Byte :=
      match n with
      | .gross => 2 | .net => 3 | .tip => 4 | .lotCrushed => 5 | .dayEnd => 6 | .daySummary => 7
    let replyByte (c : ReplyCode) : Byte :=
      match c with
      | .accepted => 0 | .format => 1 | .wrongRole => 2 | .wrongState => 3 | .outOfRange => 4 | .busy => 5
      | .full => 6 | .unknown => 7 | .late => 8 | .dayUnknown => 9 | .empty => 10
    let monitorByte (i : MonitorId) : Byte :=
      match i with
      | .scaleOver => 0 | .carrierStall => 1 | .reverseOverrun => 2 | .meterSilent => 3 | .meterOverrange => 4
      | .peerSilent => 5 | .lineCongestion => 6 | .storeFull => 7
    match item with
    | .reply kind code detail => item.kindCode = 0x80 ∧ item.payload = [kind, replyByte code, BitVec.ofNat 8 detail]
    | .status payload => item.kindCode = 0x81 ∧ item.payload = payload
    | .captured mass => item.kindCode = 0x90 ∧ item.payload = be 3 mass
    | .sent kind name => item.kindCode = 0x91 ∧ item.payload = kindByte kind ::
        match name with
        | .key k => named k
        | .closing day => be 2 day ++ [0, 0, 0]
        | .nothing => [0, 0, 0, 0, 0]
    | .cancelled plate => item.kindCode = 0x92 ∧ item.payload = plate
    | .unmatchedTare plate tare => item.kindCode = 0x93 ∧ item.payload = plate ++ be 3 tare
    | .tipped lot => item.kindCode = 0x94 ∧ item.payload = lotNamed lot
    | .notTracked lot mass => item.kindCode = 0x95 ∧ item.payload = lotNamed lot ++ be 3 mass
    | .monitor id active => item.kindCode = 0x96 ∧ item.payload = [monitorByte id, if active then 1 else 0]
    | .noticeLost kind name => item.kindCode = 0x97 ∧ item.payload = kindByte kind ::
        match name with
        | .key k => named k
        | .closing _ => [0, 0, 0, 0, 0]
        | .nothing => [0, 0, 0, 0, 0]
    | .dayChanged previous day => item.kindCode = 0x98 ∧ item.payload = be 2 previous ++ be 2 day
    | .consignmentRecord r =>
      let bytes (off n : Nat) : List Byte := (item.payload.drop off).take n
      let bit (b : Bool) (i : Nat) : Nat := if b then 2 ^ i else 0
      let lf := r.lotFlags
      let rf := r.flags
      let group (n : Nat) (g : Option (List Byte)) : List Byte := g.getD (List.replicate n 0)
      let figure (width limit v : Nat) : List Byte := be width (min v limit)
      item.kindCode = 0x82 ∧ ((∀ g, r.gross = some g → g.plate.length = 8) →
        item.payload.length = 59 ∧ bytes 0 4 = keyBytes' r.key ∧
        bytes 4 1 = [match r.cause with | .complete => 1 | .lapsed => 2 | .notCrushed => 3] ∧
        bytes 5 1 = be 1 (bit r.gross.isSome 0 + bit r.net.isSome 1 + bit r.analysis.isSome 2) ∧
        bytes 6 2 = be 2 (bit rf.noAnalysis 0 + bit rf.noNet 1 + bit rf.partsMissing 2 + bit rf.millBasis 3 +
          bit rf.brixZero 4 + bit rf.basisZero 5 + bit rf.reanalysed 6) ∧
        bytes 8 2 = be 2 (bit lf.synthetic 0 + bit lf.grossUnknown 1 + bit lf.lateEntry 2 + bit lf.positionSuspect 3 +
          bit lf.netCorrected 4 + bit lf.overCredited 5 + bit lf.estimated 6 + bit lf.ageSaturated 7 +
          bit lf.notTracked 8) ∧
        bytes 10 13 = group 13 (r.gross.map fun g => g.plate ++ be 2 g.grower ++ be 3 g.gross) ∧
        bytes 23 7 = group 7 (r.net.map fun n => be 3 n.tare ++ be 3 n.net ++
          [match n.basis with | .weighed => 1 | .estimated => 2 | .defaulted => 3]) ∧
        bytes 30 3 = figure 3 16777215 r.massBasis ∧ bytes 33 1 = be 1 (r.parts * 16 + r.m) ∧
        bytes 34 3 = figure 3 16777215 r.crushed ∧ bytes 37 3 = figure 3 16777215 r.creditedMeasured ∧
        bytes 40 3 = figure 3 16777215 r.creditedEstimated ∧ bytes 43 3 = figure 3 16777215 r.juice ∧
        bytes 46 9 = group 9 (r.analysis.map fun a => figure 2 65535 a.brix ++ figure 2 65535 a.pol ++
          figure 2 65535 a.purity ++ figure 3 16777215 a.sucrose) ∧
        bytes 55 2 = figure 2 65535 r.juicePerTonne ∧
        bytes 57 2 = group 2 (r.analysis.map fun a => figure 2 65535 a.sucrosePerTonne))
    | .dayRecord r =>
      let bytes (off n : Nat) : List Byte := (item.payload.drop off).take n
      item.kindCode = 0x83 ∧ item.payload.length = (if r.mill.isSome then 60 else 16) ∧ bytes 0 2 = be 2 r.day ∧
      bytes 2 2 = be 2 (min r.totals.records 65535) ∧ bytes 4 4 = be 4 (min r.totals.netSum 4294967295) ∧
      bytes 8 4 = be 4 (min r.totals.juiceSum 4294967295) ∧ bytes 12 4 = be 4 (min r.totals.sucroseSum 4294967295) ∧
      ∀ c, r.mill = some c →
        bytes 16 4 = be 4 c.entered.toNat ∧ bytes 20 4 = be 4 c.carriedIn.toNat ∧
        bytes 24 4 = be 4 c.corrections.toNat ∧ bytes 28 4 = be 4 c.crushed.toNat ∧
        bytes 32 4 = be 4 c.onCarrier.toNat ∧ bytes 36 4 = be 4 c.writtenOff.toNat ∧
        bytes 40 4 = be 4 c.measured.toNat ∧ bytes 44 4 = be 4 c.creditedMeasured.toNat ∧
        bytes 48 4 = be 4 c.creditedEstimated.toNat ∧ bytes 52 4 = be 4 c.unallocated.toNat ∧
        bytes 56 2 = be 2 c.periods ∧ bytes 58 2 = be 2 c.forced) ∧
  ∀ n v : Nat, (be n v).length = n ∧ fromBe (be n v) = v % 256 ^ n

/-- The monitor summary and ALERT (R175, R177): bit n is the active flag of monitor n, bit n + 8 its latched flag, and ALERT
is low exactly while a monitor in LATCHED or RECOVER mode is active. TLE is active in an attempt and in a mark alone, each
until its last half-bit has been driven (R1, R6, R7), TLD is the half-bit of the frame, high first for a 1, and low in the mark
(R1, R4, R7), TXD the bits of the item being sent, start bit low, least significant bit first, stop bit high, and high at rest
and in POWER-UP (R35, R181). The line reads low while the part or another station drives low, and high otherwise (section 1.1);
it mismatches while a driven high half-bit reads low (R6, R7). The pins are views of the state at a tick, the model's choice
(logs 2 and 26). -/
def Obligations.SummaryAndAlertFollowTheMonitors : Prop :=
  ∀ s : State, s.mu.summary < 65536 ∧
    (∀ i : MonitorId, s.mu.summary.testBit i.idx.val = (mon s i).active ∧
      s.mu.summary.testBit (i.idx.val + 8) = (mon s i).latched) ∧
    (alertLow s = true ↔ ∃ i : MonitorId, (mon s i).active = true ∧
      ((mon s i).mode = some .latched ∨ (mon s i).mode = some .recover)) ∧
    (lineEnabled s = true ↔ s.li.tx = .sending ∧ s.li.txTicks < s.li.frame.length * 64 ∨
      s.li.tx = .mark ∧ s.li.txTicks < 16) ∧
    (lineEnabled s = true → s.li.tx = .mark → lineLevel s = some false) ∧ (lineEnabled s = false → lineLevel s = none) ∧
    (lineReads s = true ↔ lineLevel s ≠ some false ∧ s.wires.line.level = true) ∧
    (lineMismatch s = true ↔ s.li.tx = .sending ∧ lineLevel s = some true ∧ s.wires.line.level = false) ∧
    (∀ (i : Nat) (j : Fin 8) (b : Byte), s.li.tx = .sending → s.li.frame[i]? = some b →
      (s.li.txTicks / 4 = (i * 8 + j) * 2 → lineLevel s = some (b.getLsbD (7 - j))) ∧
      (s.li.txTicks / 4 = (i * 8 + j) * 2 + 1 → lineLevel s = some (!b.getLsbD (7 - j)))) ∧
    (s.part.stationState = .powerUp ∨ s.fp.out = [] → txd s = true) ∧
    ∀ (it : OutItem) (rest : List OutItem), s.part.stationState ≠ .powerUp → s.fp.out = it :: rest →
      let slot := s.fp.outTicks * 24 / 625
      (it.wire.length * 10 ≤ slot → txd s = true) ∧
      ∀ (i : Nat) (j : Fin 8) (b : Byte), it.wire[i]? = some b →
        (slot = i * 10 → txd s = false) ∧ (slot = i * 10 + 1 + j → txd s = b.getLsbD j) ∧
        (slot = i * 10 + 9 → txd s = true)
end

