-- ==== Sys2Proof/Laws/State.lean ====
section
/-! SUPPORT. One lemma per field per block update of State, each true by `rfl`. -/

namespace Sys2Proof.Machine

variable (s : State)

@[simp] theorem State.setPart_part (x : Part) : (s.setPart x).part = x := rfl
@[simp] theorem State.setPart_li (x : Part) : (s.setPart x).li = s.li := rfl
@[simp] theorem State.setPart_pt (x : Part) : (s.setPart x).pt = s.pt := rfl
@[simp] theorem State.setPart_wu (x : Part) : (s.setPart x).wu = s.wu := rfl
@[simp] theorem State.setPart_tu (x : Part) : (s.setPart x).tu = s.tu := rfl
@[simp] theorem State.setPart_cc (x : Part) : (s.setPart x).cc = s.cc := rfl
@[simp] theorem State.setPart_cl (x : Part) : (s.setPart x).cl = s.cl := rfl
@[simp] theorem State.setPart_ja (x : Part) : (s.setPart x).ja = s.ja := rfl
@[simp] theorem State.setPart_ra (x : Part) : (s.setPart x).ra = s.ra := rfl
@[simp] theorem State.setPart_mu (x : Part) : (s.setPart x).mu = s.mu := rfl
@[simp] theorem State.setPart_fp (x : Part) : (s.setPart x).fp = s.fp := rfl
@[simp] theorem State.setPart_clock (x : Part) : (s.setPart x).clock = s.clock := rfl
@[simp] theorem State.setPart_wires (x : Part) : (s.setPart x).wires = s.wires := rfl
@[simp] theorem State.setPart_pending (x : Part) : (s.setPart x).pending = s.pending := rfl

@[simp] theorem State.setLi_part (x : LineInterface) : (s.setLi x).part = s.part := rfl
@[simp] theorem State.setLi_li (x : LineInterface) : (s.setLi x).li = x := rfl
@[simp] theorem State.setLi_pt (x : LineInterface) : (s.setLi x).pt = s.pt := rfl
@[simp] theorem State.setLi_wu (x : LineInterface) : (s.setLi x).wu = s.wu := rfl
@[simp] theorem State.setLi_tu (x : LineInterface) : (s.setLi x).tu = s.tu := rfl
@[simp] theorem State.setLi_cc (x : LineInterface) : (s.setLi x).cc = s.cc := rfl
@[simp] theorem State.setLi_cl (x : LineInterface) : (s.setLi x).cl = s.cl := rfl
@[simp] theorem State.setLi_ja (x : LineInterface) : (s.setLi x).ja = s.ja := rfl
@[simp] theorem State.setLi_ra (x : LineInterface) : (s.setLi x).ra = s.ra := rfl
@[simp] theorem State.setLi_mu (x : LineInterface) : (s.setLi x).mu = s.mu := rfl
@[simp] theorem State.setLi_fp (x : LineInterface) : (s.setLi x).fp = s.fp := rfl
@[simp] theorem State.setLi_clock (x : LineInterface) : (s.setLi x).clock = s.clock := rfl
@[simp] theorem State.setLi_wires (x : LineInterface) : (s.setLi x).wires = s.wires := rfl
@[simp] theorem State.setLi_pending (x : LineInterface) : (s.setLi x).pending = s.pending := rfl

@[simp] theorem State.setPt_part (x : PeerTable) : (s.setPt x).part = s.part := rfl
@[simp] theorem State.setPt_li (x : PeerTable) : (s.setPt x).li = s.li := rfl
@[simp] theorem State.setPt_pt (x : PeerTable) : (s.setPt x).pt = x := rfl
@[simp] theorem State.setPt_wu (x : PeerTable) : (s.setPt x).wu = s.wu := rfl
@[simp] theorem State.setPt_tu (x : PeerTable) : (s.setPt x).tu = s.tu := rfl
@[simp] theorem State.setPt_cc (x : PeerTable) : (s.setPt x).cc = s.cc := rfl
@[simp] theorem State.setPt_cl (x : PeerTable) : (s.setPt x).cl = s.cl := rfl
@[simp] theorem State.setPt_ja (x : PeerTable) : (s.setPt x).ja = s.ja := rfl
@[simp] theorem State.setPt_ra (x : PeerTable) : (s.setPt x).ra = s.ra := rfl
@[simp] theorem State.setPt_mu (x : PeerTable) : (s.setPt x).mu = s.mu := rfl
@[simp] theorem State.setPt_fp (x : PeerTable) : (s.setPt x).fp = s.fp := rfl
@[simp] theorem State.setPt_clock (x : PeerTable) : (s.setPt x).clock = s.clock := rfl
@[simp] theorem State.setPt_wires (x : PeerTable) : (s.setPt x).wires = s.wires := rfl
@[simp] theorem State.setPt_pending (x : PeerTable) : (s.setPt x).pending = s.pending := rfl

@[simp] theorem State.setWu_part (x : WeighUnit) : (s.setWu x).part = s.part := rfl
@[simp] theorem State.setWu_li (x : WeighUnit) : (s.setWu x).li = s.li := rfl
@[simp] theorem State.setWu_pt (x : WeighUnit) : (s.setWu x).pt = s.pt := rfl
@[simp] theorem State.setWu_wu (x : WeighUnit) : (s.setWu x).wu = x := rfl
@[simp] theorem State.setWu_tu (x : WeighUnit) : (s.setWu x).tu = s.tu := rfl
@[simp] theorem State.setWu_cc (x : WeighUnit) : (s.setWu x).cc = s.cc := rfl
@[simp] theorem State.setWu_cl (x : WeighUnit) : (s.setWu x).cl = s.cl := rfl
@[simp] theorem State.setWu_ja (x : WeighUnit) : (s.setWu x).ja = s.ja := rfl
@[simp] theorem State.setWu_ra (x : WeighUnit) : (s.setWu x).ra = s.ra := rfl
@[simp] theorem State.setWu_mu (x : WeighUnit) : (s.setWu x).mu = s.mu := rfl
@[simp] theorem State.setWu_fp (x : WeighUnit) : (s.setWu x).fp = s.fp := rfl
@[simp] theorem State.setWu_clock (x : WeighUnit) : (s.setWu x).clock = s.clock := rfl
@[simp] theorem State.setWu_wires (x : WeighUnit) : (s.setWu x).wires = s.wires := rfl
@[simp] theorem State.setWu_pending (x : WeighUnit) : (s.setWu x).pending = s.pending := rfl

@[simp] theorem State.setTu_part (x : TipUnit) : (s.setTu x).part = s.part := rfl
@[simp] theorem State.setTu_li (x : TipUnit) : (s.setTu x).li = s.li := rfl
@[simp] theorem State.setTu_pt (x : TipUnit) : (s.setTu x).pt = s.pt := rfl
@[simp] theorem State.setTu_wu (x : TipUnit) : (s.setTu x).wu = s.wu := rfl
@[simp] theorem State.setTu_tu (x : TipUnit) : (s.setTu x).tu = x := rfl
@[simp] theorem State.setTu_cc (x : TipUnit) : (s.setTu x).cc = s.cc := rfl
@[simp] theorem State.setTu_cl (x : TipUnit) : (s.setTu x).cl = s.cl := rfl
@[simp] theorem State.setTu_ja (x : TipUnit) : (s.setTu x).ja = s.ja := rfl
@[simp] theorem State.setTu_ra (x : TipUnit) : (s.setTu x).ra = s.ra := rfl
@[simp] theorem State.setTu_mu (x : TipUnit) : (s.setTu x).mu = s.mu := rfl
@[simp] theorem State.setTu_fp (x : TipUnit) : (s.setTu x).fp = s.fp := rfl
@[simp] theorem State.setTu_clock (x : TipUnit) : (s.setTu x).clock = s.clock := rfl
@[simp] theorem State.setTu_wires (x : TipUnit) : (s.setTu x).wires = s.wires := rfl
@[simp] theorem State.setTu_pending (x : TipUnit) : (s.setTu x).pending = s.pending := rfl

@[simp] theorem State.setCc_part (x : CarrierCounter) : (s.setCc x).part = s.part := rfl
@[simp] theorem State.setCc_li (x : CarrierCounter) : (s.setCc x).li = s.li := rfl
@[simp] theorem State.setCc_pt (x : CarrierCounter) : (s.setCc x).pt = s.pt := rfl
@[simp] theorem State.setCc_wu (x : CarrierCounter) : (s.setCc x).wu = s.wu := rfl
@[simp] theorem State.setCc_tu (x : CarrierCounter) : (s.setCc x).tu = s.tu := rfl
@[simp] theorem State.setCc_cc (x : CarrierCounter) : (s.setCc x).cc = x := rfl
@[simp] theorem State.setCc_cl (x : CarrierCounter) : (s.setCc x).cl = s.cl := rfl
@[simp] theorem State.setCc_ja (x : CarrierCounter) : (s.setCc x).ja = s.ja := rfl
@[simp] theorem State.setCc_ra (x : CarrierCounter) : (s.setCc x).ra = s.ra := rfl
@[simp] theorem State.setCc_mu (x : CarrierCounter) : (s.setCc x).mu = s.mu := rfl
@[simp] theorem State.setCc_fp (x : CarrierCounter) : (s.setCc x).fp = s.fp := rfl
@[simp] theorem State.setCc_clock (x : CarrierCounter) : (s.setCc x).clock = s.clock := rfl
@[simp] theorem State.setCc_wires (x : CarrierCounter) : (s.setCc x).wires = s.wires := rfl
@[simp] theorem State.setCc_pending (x : CarrierCounter) : (s.setCc x).pending = s.pending := rfl

@[simp] theorem State.setCl_part (x : CrushLine) : (s.setCl x).part = s.part := rfl
@[simp] theorem State.setCl_li (x : CrushLine) : (s.setCl x).li = s.li := rfl
@[simp] theorem State.setCl_pt (x : CrushLine) : (s.setCl x).pt = s.pt := rfl
@[simp] theorem State.setCl_wu (x : CrushLine) : (s.setCl x).wu = s.wu := rfl
@[simp] theorem State.setCl_tu (x : CrushLine) : (s.setCl x).tu = s.tu := rfl
@[simp] theorem State.setCl_cc (x : CrushLine) : (s.setCl x).cc = s.cc := rfl
@[simp] theorem State.setCl_cl (x : CrushLine) : (s.setCl x).cl = x := rfl
@[simp] theorem State.setCl_ja (x : CrushLine) : (s.setCl x).ja = s.ja := rfl
@[simp] theorem State.setCl_ra (x : CrushLine) : (s.setCl x).ra = s.ra := rfl
@[simp] theorem State.setCl_mu (x : CrushLine) : (s.setCl x).mu = s.mu := rfl
@[simp] theorem State.setCl_fp (x : CrushLine) : (s.setCl x).fp = s.fp := rfl
@[simp] theorem State.setCl_clock (x : CrushLine) : (s.setCl x).clock = s.clock := rfl
@[simp] theorem State.setCl_wires (x : CrushLine) : (s.setCl x).wires = s.wires := rfl
@[simp] theorem State.setCl_pending (x : CrushLine) : (s.setCl x).pending = s.pending := rfl

@[simp] theorem State.setJa_part (x : JuiceAttributor) : (s.setJa x).part = s.part := rfl
@[simp] theorem State.setJa_li (x : JuiceAttributor) : (s.setJa x).li = s.li := rfl
@[simp] theorem State.setJa_pt (x : JuiceAttributor) : (s.setJa x).pt = s.pt := rfl
@[simp] theorem State.setJa_wu (x : JuiceAttributor) : (s.setJa x).wu = s.wu := rfl
@[simp] theorem State.setJa_tu (x : JuiceAttributor) : (s.setJa x).tu = s.tu := rfl
@[simp] theorem State.setJa_cc (x : JuiceAttributor) : (s.setJa x).cc = s.cc := rfl
@[simp] theorem State.setJa_cl (x : JuiceAttributor) : (s.setJa x).cl = s.cl := rfl
@[simp] theorem State.setJa_ja (x : JuiceAttributor) : (s.setJa x).ja = x := rfl
@[simp] theorem State.setJa_ra (x : JuiceAttributor) : (s.setJa x).ra = s.ra := rfl
@[simp] theorem State.setJa_mu (x : JuiceAttributor) : (s.setJa x).mu = s.mu := rfl
@[simp] theorem State.setJa_fp (x : JuiceAttributor) : (s.setJa x).fp = s.fp := rfl
@[simp] theorem State.setJa_clock (x : JuiceAttributor) : (s.setJa x).clock = s.clock := rfl
@[simp] theorem State.setJa_wires (x : JuiceAttributor) : (s.setJa x).wires = s.wires := rfl
@[simp] theorem State.setJa_pending (x : JuiceAttributor) : (s.setJa x).pending = s.pending := rfl

@[simp] theorem State.setRa_part (x : RecordAssembler) : (s.setRa x).part = s.part := rfl
@[simp] theorem State.setRa_li (x : RecordAssembler) : (s.setRa x).li = s.li := rfl
@[simp] theorem State.setRa_pt (x : RecordAssembler) : (s.setRa x).pt = s.pt := rfl
@[simp] theorem State.setRa_wu (x : RecordAssembler) : (s.setRa x).wu = s.wu := rfl
@[simp] theorem State.setRa_tu (x : RecordAssembler) : (s.setRa x).tu = s.tu := rfl
@[simp] theorem State.setRa_cc (x : RecordAssembler) : (s.setRa x).cc = s.cc := rfl
@[simp] theorem State.setRa_cl (x : RecordAssembler) : (s.setRa x).cl = s.cl := rfl
@[simp] theorem State.setRa_ja (x : RecordAssembler) : (s.setRa x).ja = s.ja := rfl
@[simp] theorem State.setRa_ra (x : RecordAssembler) : (s.setRa x).ra = x := rfl
@[simp] theorem State.setRa_mu (x : RecordAssembler) : (s.setRa x).mu = s.mu := rfl
@[simp] theorem State.setRa_fp (x : RecordAssembler) : (s.setRa x).fp = s.fp := rfl
@[simp] theorem State.setRa_clock (x : RecordAssembler) : (s.setRa x).clock = s.clock := rfl
@[simp] theorem State.setRa_wires (x : RecordAssembler) : (s.setRa x).wires = s.wires := rfl
@[simp] theorem State.setRa_pending (x : RecordAssembler) : (s.setRa x).pending = s.pending := rfl

@[simp] theorem State.setMu_part (x : MonitorUnit) : (s.setMu x).part = s.part := rfl
@[simp] theorem State.setMu_li (x : MonitorUnit) : (s.setMu x).li = s.li := rfl
@[simp] theorem State.setMu_pt (x : MonitorUnit) : (s.setMu x).pt = s.pt := rfl
@[simp] theorem State.setMu_wu (x : MonitorUnit) : (s.setMu x).wu = s.wu := rfl
@[simp] theorem State.setMu_tu (x : MonitorUnit) : (s.setMu x).tu = s.tu := rfl
@[simp] theorem State.setMu_cc (x : MonitorUnit) : (s.setMu x).cc = s.cc := rfl
@[simp] theorem State.setMu_cl (x : MonitorUnit) : (s.setMu x).cl = s.cl := rfl
@[simp] theorem State.setMu_ja (x : MonitorUnit) : (s.setMu x).ja = s.ja := rfl
@[simp] theorem State.setMu_ra (x : MonitorUnit) : (s.setMu x).ra = s.ra := rfl
@[simp] theorem State.setMu_mu (x : MonitorUnit) : (s.setMu x).mu = x := rfl
@[simp] theorem State.setMu_fp (x : MonitorUnit) : (s.setMu x).fp = s.fp := rfl
@[simp] theorem State.setMu_clock (x : MonitorUnit) : (s.setMu x).clock = s.clock := rfl
@[simp] theorem State.setMu_wires (x : MonitorUnit) : (s.setMu x).wires = s.wires := rfl
@[simp] theorem State.setMu_pending (x : MonitorUnit) : (s.setMu x).pending = s.pending := rfl

@[simp] theorem State.setFp_part (x : FieldPort) : (s.setFp x).part = s.part := rfl
@[simp] theorem State.setFp_li (x : FieldPort) : (s.setFp x).li = s.li := rfl
@[simp] theorem State.setFp_pt (x : FieldPort) : (s.setFp x).pt = s.pt := rfl
@[simp] theorem State.setFp_wu (x : FieldPort) : (s.setFp x).wu = s.wu := rfl
@[simp] theorem State.setFp_tu (x : FieldPort) : (s.setFp x).tu = s.tu := rfl
@[simp] theorem State.setFp_cc (x : FieldPort) : (s.setFp x).cc = s.cc := rfl
@[simp] theorem State.setFp_cl (x : FieldPort) : (s.setFp x).cl = s.cl := rfl
@[simp] theorem State.setFp_ja (x : FieldPort) : (s.setFp x).ja = s.ja := rfl
@[simp] theorem State.setFp_ra (x : FieldPort) : (s.setFp x).ra = s.ra := rfl
@[simp] theorem State.setFp_mu (x : FieldPort) : (s.setFp x).mu = s.mu := rfl
@[simp] theorem State.setFp_fp (x : FieldPort) : (s.setFp x).fp = x := rfl
@[simp] theorem State.setFp_clock (x : FieldPort) : (s.setFp x).clock = s.clock := rfl
@[simp] theorem State.setFp_wires (x : FieldPort) : (s.setFp x).wires = s.wires := rfl
@[simp] theorem State.setFp_pending (x : FieldPort) : (s.setFp x).pending = s.pending := rfl

@[simp] theorem State.setClock_part (x : Clock) : (s.setClock x).part = s.part := rfl
@[simp] theorem State.setClock_li (x : Clock) : (s.setClock x).li = s.li := rfl
@[simp] theorem State.setClock_pt (x : Clock) : (s.setClock x).pt = s.pt := rfl
@[simp] theorem State.setClock_wu (x : Clock) : (s.setClock x).wu = s.wu := rfl
@[simp] theorem State.setClock_tu (x : Clock) : (s.setClock x).tu = s.tu := rfl
@[simp] theorem State.setClock_cc (x : Clock) : (s.setClock x).cc = s.cc := rfl
@[simp] theorem State.setClock_cl (x : Clock) : (s.setClock x).cl = s.cl := rfl
@[simp] theorem State.setClock_ja (x : Clock) : (s.setClock x).ja = s.ja := rfl
@[simp] theorem State.setClock_ra (x : Clock) : (s.setClock x).ra = s.ra := rfl
@[simp] theorem State.setClock_mu (x : Clock) : (s.setClock x).mu = s.mu := rfl
@[simp] theorem State.setClock_fp (x : Clock) : (s.setClock x).fp = s.fp := rfl
@[simp] theorem State.setClock_clock (x : Clock) : (s.setClock x).clock = x := rfl
@[simp] theorem State.setClock_wires (x : Clock) : (s.setClock x).wires = s.wires := rfl
@[simp] theorem State.setClock_pending (x : Clock) : (s.setClock x).pending = s.pending := rfl

@[simp] theorem State.setWires_part (x : Wires) : (s.setWires x).part = s.part := rfl
@[simp] theorem State.setWires_li (x : Wires) : (s.setWires x).li = s.li := rfl
@[simp] theorem State.setWires_pt (x : Wires) : (s.setWires x).pt = s.pt := rfl
@[simp] theorem State.setWires_wu (x : Wires) : (s.setWires x).wu = s.wu := rfl
@[simp] theorem State.setWires_tu (x : Wires) : (s.setWires x).tu = s.tu := rfl
@[simp] theorem State.setWires_cc (x : Wires) : (s.setWires x).cc = s.cc := rfl
@[simp] theorem State.setWires_cl (x : Wires) : (s.setWires x).cl = s.cl := rfl
@[simp] theorem State.setWires_ja (x : Wires) : (s.setWires x).ja = s.ja := rfl
@[simp] theorem State.setWires_ra (x : Wires) : (s.setWires x).ra = s.ra := rfl
@[simp] theorem State.setWires_mu (x : Wires) : (s.setWires x).mu = s.mu := rfl
@[simp] theorem State.setWires_fp (x : Wires) : (s.setWires x).fp = s.fp := rfl
@[simp] theorem State.setWires_clock (x : Wires) : (s.setWires x).clock = s.clock := rfl
@[simp] theorem State.setWires_wires (x : Wires) : (s.setWires x).wires = x := rfl
@[simp] theorem State.setWires_pending (x : Wires) : (s.setWires x).pending = s.pending := rfl

/-- Two states are equal when their blocks are. -/
theorem State.ext_blocks {s t : State} (h1 : s.part = t.part) (h2 : s.li = t.li) (h3 : s.pt = t.pt) (h4 : s.wu = t.wu)
    (h5 : s.tu = t.tu) (h6 : s.cc = t.cc) (h7 : s.cl = t.cl) (h8 : s.ja = t.ja) (h9 : s.ra = t.ra) (h10 : s.mu = t.mu)
    (h11 : s.fp = t.fp) (h12 : s.clock = t.clock) (h13 : s.wires = t.wires)
    (h14 : s.pending = t.pending) : s = t := by
  cases s; cases t; simp_all

end Sys2Proof.Machine
end

