-- ==== Sys2Proof/Laws/Ops.lean ====
section
/-! SUPPORT. What the shared operations leave unchanged, block by block: one lemma for each operation. -/

namespace Sys2Proof.Machine

/-- `setCounters` leaves these blocks unchanged. -/
@[simp] theorem setCounters_frame (c : LineCounters) (s : State) :
    (setCounters c s).part = s.part ∧ (setCounters c s).pt = s.pt ∧ (setCounters c s).wu = s.wu ∧
    (setCounters c s).tu = s.tu ∧ (setCounters c s).cc = s.cc ∧ (setCounters c s).cl = s.cl ∧
    (setCounters c s).ja = s.ja ∧ (setCounters c s).ra = s.ra ∧ (setCounters c s).mu = s.mu ∧
    (setCounters c s).fp = s.fp ∧ (setCounters c s).clock = s.clock ∧ (setCounters c s).wires = s.wires ∧
    (setCounters c s).pending = s.pending := by
  simp [setCounters]

/-- `countMalformed` leaves these blocks unchanged. -/
@[simp] theorem countMalformed_frame (s : State) :
    (countMalformed s).part = s.part ∧ (countMalformed s).pt = s.pt ∧ (countMalformed s).wu = s.wu ∧
    (countMalformed s).tu = s.tu ∧ (countMalformed s).cc = s.cc ∧ (countMalformed s).cl = s.cl ∧
    (countMalformed s).ja = s.ja ∧ (countMalformed s).ra = s.ra ∧ (countMalformed s).mu = s.mu ∧
    (countMalformed s).fp = s.fp ∧ (countMalformed s).clock = s.clock ∧ (countMalformed s).wires = s.wires ∧
    (countMalformed s).pending = s.pending := by
  simp [countMalformed]

/-- `place` leaves these blocks unchanged. -/
@[simp] theorem place_frame (it : OutItem) (s : State) :
    (place it s).part = s.part ∧ (place it s).li = s.li ∧ (place it s).pt = s.pt ∧ (place it s).wu = s.wu ∧
    (place it s).tu = s.tu ∧ (place it s).cc = s.cc ∧ (place it s).cl = s.cl ∧ (place it s).ja = s.ja ∧
    (place it s).ra = s.ra ∧ (place it s).mu = s.mu ∧ (place it s).clock = s.clock ∧ (place it s).wires = s.wires ∧
    (place it s).pending = s.pending := by
  simp [place]

/-- `emit` leaves these blocks unchanged. -/
@[simp] theorem emit_frame (ev : OutItem) (s : State) :
    (emit ev s).part = s.part ∧ (emit ev s).li = s.li ∧ (emit ev s).pt = s.pt ∧ (emit ev s).wu = s.wu ∧
    (emit ev s).tu = s.tu ∧ (emit ev s).cc = s.cc ∧ (emit ev s).cl = s.cl ∧ (emit ev s).ja = s.ja ∧
    (emit ev s).ra = s.ra ∧ (emit ev s).mu = s.mu ∧ (emit ev s).clock = s.clock ∧ (emit ev s).wires = s.wires ∧
    (emit ev s).pending = s.pending := by
  unfold emit
  try dsimp only
  (repeat' split) <;> simp

/-- `setMon` leaves these blocks unchanged. -/
@[simp] theorem setMon_frame (i : MonitorId) (r : MonitorRec) (s : State) :
    (setMon i r s).part = s.part ∧ (setMon i r s).li = s.li ∧ (setMon i r s).pt = s.pt ∧ (setMon i r s).wu = s.wu ∧
    (setMon i r s).tu = s.tu ∧ (setMon i r s).cc = s.cc ∧ (setMon i r s).cl = s.cl ∧ (setMon i r s).ja = s.ja ∧
    (setMon i r s).ra = s.ra ∧ (setMon i r s).fp = s.fp ∧ (setMon i r s).clock = s.clock ∧
    (setMon i r s).wires = s.wires ∧ (setMon i r s).pending = s.pending := by
  simp [setMon]

/-- `syncPause` leaves these blocks unchanged. -/
@[simp] theorem syncPause_frame (i : MonitorId) (s : State) :
    (syncPause i s).part = s.part ∧ (syncPause i s).li = s.li ∧ (syncPause i s).pt = s.pt ∧
    (syncPause i s).wu = s.wu ∧ (syncPause i s).tu = s.tu ∧ (syncPause i s).cc = s.cc ∧ (syncPause i s).cl = s.cl ∧
    (syncPause i s).ra = s.ra ∧ (syncPause i s).mu = s.mu ∧ (syncPause i s).fp = s.fp ∧
    (syncPause i s).clock = s.clock ∧ (syncPause i s).wires = s.wires ∧ (syncPause i s).pending = s.pending := by
  unfold syncPause
  try dsimp only
  (repeat' split) <;> simp

/-- `setActive` leaves these blocks unchanged. -/
@[simp] theorem setActive_frame (i : MonitorId) (s : State) :
    (setActive i s).part = s.part ∧ (setActive i s).li = s.li ∧ (setActive i s).pt = s.pt ∧
    (setActive i s).wu = s.wu ∧ (setActive i s).tu = s.tu ∧ (setActive i s).cc = s.cc ∧ (setActive i s).cl = s.cl ∧
    (setActive i s).ra = s.ra ∧ (setActive i s).fp = s.fp ∧ (setActive i s).clock = s.clock ∧
    (setActive i s).wires = s.wires ∧ (setActive i s).pending = s.pending := by
  simp [setActive]

/-- `setInactive` leaves these blocks unchanged. -/
@[simp] theorem setInactive_frame (i : MonitorId) (s : State) :
    (setInactive i s).part = s.part ∧ (setInactive i s).li = s.li ∧ (setInactive i s).pt = s.pt ∧
    (setInactive i s).wu = s.wu ∧ (setInactive i s).tu = s.tu ∧ (setInactive i s).cc = s.cc ∧
    (setInactive i s).cl = s.cl ∧ (setInactive i s).ra = s.ra ∧ (setInactive i s).fp = s.fp ∧
    (setInactive i s).clock = s.clock ∧ (setInactive i s).wires = s.wires ∧ (setInactive i s).pending = s.pending := by
  simp [setInactive]

/-- `activate` leaves these blocks unchanged. -/
@[simp] theorem activate_frame (i : MonitorId) (s : State) :
    (activate i s).part = s.part ∧ (activate i s).li = s.li ∧ (activate i s).pt = s.pt ∧ (activate i s).wu = s.wu ∧
    (activate i s).tu = s.tu ∧ (activate i s).cc = s.cc ∧ (activate i s).cl = s.cl ∧ (activate i s).ra = s.ra ∧
    (activate i s).clock = s.clock ∧ (activate i s).wires = s.wires ∧ (activate i s).pending = s.pending := by
  unfold activate
  try dsimp only
  (repeat' split) <;> simp

/-- `finish` leaves these blocks unchanged. -/
@[simp] theorem finish_frame (i : MonitorId) (s : State) :
    (finish i s).part = s.part ∧ (finish i s).li = s.li ∧ (finish i s).pt = s.pt ∧ (finish i s).wu = s.wu ∧
    (finish i s).tu = s.tu ∧ (finish i s).cc = s.cc ∧ (finish i s).cl = s.cl ∧ (finish i s).ra = s.ra ∧
    (finish i s).clock = s.clock ∧ (finish i s).wires = s.wires ∧ (finish i s).pending = s.pending := by
  unfold finish
  try dsimp only
  (repeat' split) <;> simp

/-- `conditionStarts` leaves these blocks unchanged. -/
@[simp] theorem conditionStarts_frame (i : MonitorId) (s : State) :
    (conditionStarts i s).part = s.part ∧ (conditionStarts i s).li = s.li ∧ (conditionStarts i s).pt = s.pt ∧
    (conditionStarts i s).wu = s.wu ∧ (conditionStarts i s).tu = s.tu ∧ (conditionStarts i s).cc = s.cc ∧
    (conditionStarts i s).cl = s.cl ∧ (conditionStarts i s).ra = s.ra ∧ (conditionStarts i s).clock = s.clock ∧
    (conditionStarts i s).wires = s.wires ∧ (conditionStarts i s).pending = s.pending := by
  simp [conditionStarts]

/-- `conditionEnds` leaves these blocks unchanged. -/
@[simp] theorem conditionEnds_frame (i : MonitorId) (s : State) :
    (conditionEnds i s).part = s.part ∧ (conditionEnds i s).li = s.li ∧ (conditionEnds i s).pt = s.pt ∧
    (conditionEnds i s).wu = s.wu ∧ (conditionEnds i s).tu = s.tu ∧ (conditionEnds i s).cc = s.cc ∧
    (conditionEnds i s).cl = s.cl ∧ (conditionEnds i s).ra = s.ra ∧ (conditionEnds i s).clock = s.clock ∧
    (conditionEnds i s).wires = s.wires ∧ (conditionEnds i s).pending = s.pending := by
  simp [conditionEnds]

/-- `observe` leaves these blocks unchanged. -/
@[simp] theorem observe_frame (i : MonitorId) (s : State) :
    (observe i s).part = s.part ∧ (observe i s).li = s.li ∧ (observe i s).pt = s.pt ∧ (observe i s).wu = s.wu ∧
    (observe i s).tu = s.tu ∧ (observe i s).cc = s.cc ∧ (observe i s).cl = s.cl ∧ (observe i s).ra = s.ra ∧
    (observe i s).clock = s.clock ∧ (observe i s).wires = s.wires ∧ (observe i s).pending = s.pending := by
  unfold observe
  try dsimp only
  (repeat' split) <;> simp

/-- `observeContrary` leaves these blocks unchanged. -/
@[simp] theorem observeContrary_frame (i : MonitorId) (s : State) :
    (observeContrary i s).part = s.part ∧ (observeContrary i s).li = s.li ∧ (observeContrary i s).pt = s.pt ∧
    (observeContrary i s).wu = s.wu ∧ (observeContrary i s).tu = s.tu ∧ (observeContrary i s).cc = s.cc ∧
    (observeContrary i s).cl = s.cl ∧ (observeContrary i s).ja = s.ja ∧ (observeContrary i s).ra = s.ra ∧
    (observeContrary i s).fp = s.fp ∧ (observeContrary i s).clock = s.clock ∧ (observeContrary i s).wires = s.wires ∧
    (observeContrary i s).pending = s.pending := by
  unfold observeContrary
  try dsimp only
  (repeat' split) <;> simp

/-- `endingEvent` leaves these blocks unchanged. -/
@[simp] theorem endingEvent_frame (i : MonitorId) (s : State) :
    (endingEvent i s).part = s.part ∧ (endingEvent i s).li = s.li ∧ (endingEvent i s).pt = s.pt ∧
    (endingEvent i s).wu = s.wu ∧ (endingEvent i s).tu = s.tu ∧ (endingEvent i s).cc = s.cc ∧
    (endingEvent i s).cl = s.cl ∧ (endingEvent i s).ra = s.ra ∧ (endingEvent i s).clock = s.clock ∧
    (endingEvent i s).wires = s.wires ∧ (endingEvent i s).pending = s.pending := by
  unfold endingEvent
  try dsimp only
  (repeat' split) <;> simp

/-- Only CARRIER-STALL pauses the juice period (R123). -/
theorem syncPause_ja {i : MonitorId} (h : i ≠ .carrierStall) (s : State) : (syncPause i s).ja = s.ja := by
  simp [syncPause, h]

theorem setActive_ja {i : MonitorId} (h : i ≠ .carrierStall) (s : State) : (setActive i s).ja = s.ja := by
  simp [setActive, syncPause_ja h]

theorem setInactive_ja {i : MonitorId} (h : i ≠ .carrierStall) (s : State) : (setInactive i s).ja = s.ja := by
  simp [setInactive, syncPause_ja h]

theorem activate_ja {i : MonitorId} (h : i ≠ .carrierStall) (s : State) : (activate i s).ja = s.ja := by
  unfold activate; split <;> simp [setActive_ja h]

theorem finish_ja {i : MonitorId} (h : i ≠ .carrierStall) (s : State) : (finish i s).ja = s.ja := by
  unfold finish; split <;> simp [setInactive_ja h]

theorem conditionStarts_ja {i : MonitorId} (h : i ≠ .carrierStall) (s : State) : (conditionStarts i s).ja = s.ja := by
  simp [conditionStarts, activate_ja h]

theorem conditionEnds_ja {i : MonitorId} (h : i ≠ .carrierStall) (s : State) : (conditionEnds i s).ja = s.ja := by
  simp [conditionEnds, finish_ja h]

theorem observe_ja {i : MonitorId} (h : i ≠ .carrierStall) (s : State) : (observe i s).ja = s.ja := by
  unfold observe; dsimp only; (repeat' split) <;> simp [activate_ja h]

theorem endingEvent_ja {i : MonitorId} (h : i ≠ .carrierStall) (s : State) : (endingEvent i s).ja = s.ja := by
  unfold endingEvent; split <;> simp [finish_ja h]

/-- `dropFrame` leaves these blocks unchanged. -/
@[simp] theorem dropFrame_frame (s : State) :
    (dropFrame s).part = s.part ∧ (dropFrame s).pt = s.pt ∧ (dropFrame s).wu = s.wu ∧ (dropFrame s).tu = s.tu ∧
    (dropFrame s).cc = s.cc ∧ (dropFrame s).cl = s.cl ∧ (dropFrame s).ja = s.ja ∧ (dropFrame s).ra = s.ra ∧
    (dropFrame s).clock = s.clock ∧ (dropFrame s).wires = s.wires ∧ (dropFrame s).pending = s.pending := by
  simp [dropFrame, conditionEnds_ja]

/-- `takeInHand` leaves these blocks unchanged. -/
@[simp] theorem takeInHand_frame (f : InHand) (s : State) :
    (takeInHand f s).part = s.part ∧ (takeInHand f s).pt = s.pt ∧ (takeInHand f s).wu = s.wu ∧
    (takeInHand f s).tu = s.tu ∧ (takeInHand f s).cc = s.cc ∧ (takeInHand f s).cl = s.cl ∧
    (takeInHand f s).ja = s.ja ∧ (takeInHand f s).ra = s.ra ∧ (takeInHand f s).mu = s.mu ∧
    (takeInHand f s).fp = s.fp ∧ (takeInHand f s).clock = s.clock ∧ (takeInHand f s).wires = s.wires ∧
    (takeInHand f s).pending = s.pending := by
  simp [takeInHand]

/-- `takeQueueHead` leaves these blocks unchanged. -/
@[simp] theorem takeQueueHead_frame (s : State) :
    (takeQueueHead s).part = s.part ∧ (takeQueueHead s).pt = s.pt ∧ (takeQueueHead s).wu = s.wu ∧
    (takeQueueHead s).tu = s.tu ∧ (takeQueueHead s).cc = s.cc ∧ (takeQueueHead s).cl = s.cl ∧
    (takeQueueHead s).ja = s.ja ∧ (takeQueueHead s).ra = s.ra ∧ (takeQueueHead s).mu = s.mu ∧
    (takeQueueHead s).fp = s.fp ∧ (takeQueueHead s).clock = s.clock ∧ (takeQueueHead s).wires = s.wires ∧
    (takeQueueHead s).pending = s.pending := by
  unfold takeQueueHead
  try dsimp only
  (repeat' split) <;> simp

/-- `abandonWaitingBeacon` leaves these blocks unchanged. -/
@[simp] theorem abandonWaitingBeacon_frame (s : State) :
    (abandonWaitingBeacon s).part = s.part ∧ (abandonWaitingBeacon s).pt = s.pt ∧
    (abandonWaitingBeacon s).wu = s.wu ∧ (abandonWaitingBeacon s).tu = s.tu ∧ (abandonWaitingBeacon s).cc = s.cc ∧
    (abandonWaitingBeacon s).cl = s.cl ∧ (abandonWaitingBeacon s).ja = s.ja ∧ (abandonWaitingBeacon s).ra = s.ra ∧
    (abandonWaitingBeacon s).clock = s.clock ∧ (abandonWaitingBeacon s).wires = s.wires ∧
    (abandonWaitingBeacon s).pending = s.pending := by
  unfold abandonWaitingBeacon
  try dsimp only
  (repeat' split) <;> simp

/-- `enqueue` leaves these blocks unchanged. -/
@[simp] theorem enqueue_frame (n : Notice) (ages : Option AgePair) (s : State) :
    (enqueue n ages s).part = s.part ∧ (enqueue n ages s).pt = s.pt ∧ (enqueue n ages s).wu = s.wu ∧
    (enqueue n ages s).tu = s.tu ∧ (enqueue n ages s).cc = s.cc ∧ (enqueue n ages s).cl = s.cl ∧
    (enqueue n ages s).ja = s.ja ∧ (enqueue n ages s).ra = s.ra ∧ (enqueue n ages s).mu = s.mu ∧
    (enqueue n ages s).fp = s.fp ∧ (enqueue n ages s).clock = s.clock ∧ (enqueue n ages s).wires = s.wires ∧
    (enqueue n ages s).pending = s.pending := by
  simp [enqueue]

/-- `offer` leaves these blocks unchanged. -/
@[simp] theorem offer_frame (n : Notice) (ages : Option AgePair) (s : State) :
    (offer n ages s).part = s.part ∧ (offer n ages s).pt = s.pt ∧ (offer n ages s).wu = s.wu ∧
    (offer n ages s).tu = s.tu ∧ (offer n ages s).cc = s.cc ∧ (offer n ages s).cl = s.cl ∧
    (offer n ages s).ja = s.ja ∧ (offer n ages s).ra = s.ra ∧ (offer n ages s).clock = s.clock ∧
    (offer n ages s).wires = s.wires ∧ (offer n ages s).pending = s.pending := by
  unfold offer
  try dsimp only
  (repeat' split) <;> simp

/-- `setPeer` leaves these blocks unchanged. -/
@[simp] theorem setPeer_frame (n : StationNo) (e : PeerEntry) (s : State) :
    (setPeer n e s).part = s.part ∧ (setPeer n e s).li = s.li ∧ (setPeer n e s).wu = s.wu ∧
    (setPeer n e s).tu = s.tu ∧ (setPeer n e s).cc = s.cc ∧ (setPeer n e s).cl = s.cl ∧ (setPeer n e s).ja = s.ja ∧
    (setPeer n e s).ra = s.ra ∧ (setPeer n e s).mu = s.mu ∧ (setPeer n e s).fp = s.fp ∧
    (setPeer n e s).clock = s.clock ∧ (setPeer n e s).wires = s.wires ∧ (setPeer n e s).pending = s.pending := by
  simp [setPeer]

/-- `reportPeerSilent` leaves these blocks unchanged. -/
@[simp] theorem reportPeerSilent_frame (s : State) :
    (reportPeerSilent s).part = s.part ∧ (reportPeerSilent s).li = s.li ∧ (reportPeerSilent s).pt = s.pt ∧
    (reportPeerSilent s).wu = s.wu ∧ (reportPeerSilent s).tu = s.tu ∧ (reportPeerSilent s).cc = s.cc ∧
    (reportPeerSilent s).cl = s.cl ∧ (reportPeerSilent s).ja = s.ja ∧ (reportPeerSilent s).ra = s.ra ∧
    (reportPeerSilent s).clock = s.clock ∧ (reportPeerSilent s).wires = s.wires ∧
    (reportPeerSilent s).pending = s.pending := by
  unfold reportPeerSilent
  (repeat' split) <;> simp [conditionStarts_ja, conditionEnds_ja]

/-- `adoptDay` leaves these blocks unchanged. -/
@[simp] theorem adoptDay_frame (d : Nat) (s : State) :
    (adoptDay d s).li = s.li ∧ (adoptDay d s).pt = s.pt ∧ (adoptDay d s).tu = s.tu ∧ (adoptDay d s).cc = s.cc ∧
    (adoptDay d s).cl = s.cl ∧ (adoptDay d s).ja = s.ja ∧ (adoptDay d s).ra = s.ra ∧ (adoptDay d s).mu = s.mu ∧
    (adoptDay d s).clock = s.clock ∧ (adoptDay d s).wires = s.wires ∧ (adoptDay d s).pending = s.pending := by
  unfold adoptDay
  try dsimp only
  (repeat' split) <;> simp

/-- `replyTo` leaves these blocks unchanged. -/
@[simp] theorem replyTo_frame (k : RecordKind) (code : ReplyCode) (s : State) :
    (replyTo k code s).part = s.part ∧ (replyTo k code s).li = s.li ∧ (replyTo k code s).pt = s.pt ∧
    (replyTo k code s).wu = s.wu ∧ (replyTo k code s).tu = s.tu ∧ (replyTo k code s).cc = s.cc ∧
    (replyTo k code s).cl = s.cl ∧ (replyTo k code s).ja = s.ja ∧ (replyTo k code s).ra = s.ra ∧
    (replyTo k code s).mu = s.mu ∧ (replyTo k code s).clock = s.clock ∧ (replyTo k code s).wires = s.wires ∧
    (replyTo k code s).pending = s.pending := by
  simp [replyTo]

/-- `hunting` leaves these blocks unchanged. -/
@[simp] theorem hunting_frame (s : State) :
    (hunting s).part = s.part ∧ (hunting s).li = s.li ∧ (hunting s).pt = s.pt ∧ (hunting s).wu = s.wu ∧
    (hunting s).tu = s.tu ∧ (hunting s).cc = s.cc ∧ (hunting s).cl = s.cl ∧ (hunting s).ja = s.ja ∧
    (hunting s).ra = s.ra ∧ (hunting s).mu = s.mu ∧ (hunting s).clock = s.clock ∧ (hunting s).wires = s.wires ∧
    (hunting s).pending = s.pending := by
  simp [hunting]

/-- A fold of operations that each leave a view alone leaves it alone. -/
theorem foldl_view {α β γ : Type} (g : β → γ) (f : β → α → β) (h : ∀ b a, g (f b a) = g b) (l : List α) (b : β) :
    g (l.foldl f b) = g b := by
  induction l generalizing b with
  | nil => rfl
  | cons a l ih => rw [List.foldl_cons, ih, h]

/-- `reportEnded` leaves these blocks unchanged. -/
@[simp] theorem reportEnded_frame (s : State) :
    (reportEnded s).part = s.part ∧ (reportEnded s).li = s.li ∧ (reportEnded s).pt = s.pt ∧
    (reportEnded s).wu = s.wu ∧ (reportEnded s).tu = s.tu ∧ (reportEnded s).cc = s.cc ∧ (reportEnded s).cl = s.cl ∧
    (reportEnded s).ja = s.ja ∧ (reportEnded s).ra = s.ra ∧ (reportEnded s).mu = s.mu ∧
    (reportEnded s).clock = s.clock ∧ (reportEnded s).wires = s.wires ∧ (reportEnded s).pending = s.pending := by
  unfold reportEnded
  refine ⟨?_, ?_, ?_, ?_, ?_, ?_, ?_, ?_, ?_, ?_, ?_, ?_, ?_⟩ <;>
    exact foldl_view _ _ (fun b a => by simp) _ _

/-- `enterMute` leaves these blocks unchanged. -/
@[simp] theorem enterMute_frame (cause : MuteCause) (s : State) :
    (enterMute cause s).pt = s.pt ∧ (enterMute cause s).wu = s.wu ∧ (enterMute cause s).tu = s.tu ∧
    (enterMute cause s).cc = s.cc ∧ (enterMute cause s).cl = s.cl ∧ (enterMute cause s).ja = s.ja ∧
    (enterMute cause s).ra = s.ra ∧ (enterMute cause s).clock = s.clock ∧ (enterMute cause s).wires = s.wires ∧
    (enterMute cause s).pending = s.pending := by
  simp [enterMute]

/-- `atPowerUp` keeps what the outside drives, and the waiting commands. -/
@[simp] theorem atPowerUp_frame (fresh : Bool) (s : State) :
    (atPowerUp fresh s).wires = s.wires ∧ (atPowerUp fresh s).pending = s.pending := ⟨rfl, rfl⟩

/-- Entry to RUN leaves the prescalers, the wires and the waiting commands unchanged. -/
@[simp] theorem enterRun_frame (c : Settings) (s : State) :
    (enterRun c s).clock = s.clock ∧ (enterRun c s).wires = s.wires ∧ (enterRun c s).pending = s.pending := by
  unfold enterRun
  dsimp only
  split <;> simp [startUnits]

/-- `ownFrameEnds` leaves these blocks unchanged. -/
@[simp] theorem ownFrameEnds_frame (s : State) :
    (ownFrameEnds s).part = s.part ∧ (ownFrameEnds s).pt = s.pt ∧ (ownFrameEnds s).wu = s.wu ∧
    (ownFrameEnds s).tu = s.tu ∧ (ownFrameEnds s).cc = s.cc ∧ (ownFrameEnds s).cl = s.cl ∧
    (ownFrameEnds s).ja = s.ja ∧ (ownFrameEnds s).ra = s.ra ∧ (ownFrameEnds s).mu = s.mu ∧
    (ownFrameEnds s).fp = s.fp ∧ (ownFrameEnds s).clock = s.clock ∧ (ownFrameEnds s).wires = s.wires ∧
    (ownFrameEnds s).pending = s.pending := by
  simp [ownFrameEnds]

/-- `completeFrame` leaves these blocks unchanged. -/
@[simp] theorem completeFrame_frame (f : Option InHand) (s : State) :
    (completeFrame f s).part = s.part ∧ (completeFrame f s).pt = s.pt ∧ (completeFrame f s).wu = s.wu ∧
    (completeFrame f s).tu = s.tu ∧ (completeFrame f s).cc = s.cc ∧ (completeFrame f s).cl = s.cl ∧
    (completeFrame f s).ja = s.ja ∧ (completeFrame f s).ra = s.ra ∧ (completeFrame f s).mu = s.mu ∧
    (completeFrame f s).clock = s.clock ∧ (completeFrame f s).wires = s.wires ∧
    (completeFrame f s).pending = s.pending := by
  unfold completeFrame
  try dsimp only
  (repeat' split) <;> simp

/-! ### What the operations read

The field port's queue after an event, and the monitors after an observation, are a matter of the field port and the
monitors alone. -/

theorem emit_fp {s t : State} (ev : OutItem) (h : s.fp = t.fp) : (emit ev s).fp = (emit ev t).fp := by
  unfold emit place; rw [h]; split <;> simp

theorem place_fp {s t : State} (it : OutItem) (h : s.fp = t.fp) : (place it s).fp = (place it t).fp := by
  simp [place, h]

theorem mon_eq {s t : State} (i : MonitorId) (h : s.mu = t.mu) : mon s i = mon t i := by simp [mon, h]

@[simp] theorem mon_setMon (i : MonitorId) (r : MonitorRec) (s : State) : mon (setMon i r s) i = r := by
  simp [mon, setMon]

theorem setMon_mu {s t : State} (i : MonitorId) (r : MonitorRec) (h : s.mu = t.mu) :
    (setMon i r s).mu = (setMon i r t).mu := by simp [setMon, h]

theorem setActive_mu {s t : State} (i : MonitorId) (h : s.mu = t.mu) : (setActive i s).mu = (setActive i t).mu := by
  simp [setActive, setMon, mon, h]

theorem setInactive_mu {s t : State} (i : MonitorId) (h : s.mu = t.mu) :
    (setInactive i s).mu = (setInactive i t).mu := by
  simp [setInactive, setMon, mon, h]

theorem activate_reads {s t : State} (i : MonitorId) (hm : s.mu = t.mu) (hf : s.fp = t.fp) :
    (activate i s).mu = (activate i t).mu ∧ (activate i s).fp = (activate i t).fp := by
  unfold activate
  rw [mon_eq i hm]
  split
  · exact ⟨hm, hf⟩
  · exact ⟨by simp [setActive_mu i hm], emit_fp _ (by simp [hf])⟩

theorem finish_reads {s t : State} (i : MonitorId) (hm : s.mu = t.mu) (hf : s.fp = t.fp) :
    (finish i s).mu = (finish i t).mu ∧ (finish i s).fp = (finish i t).fp := by
  unfold finish
  rw [mon_eq i hm]
  split
  · exact ⟨by simp [setInactive_mu i hm], emit_fp _ (by simp [hf])⟩
  · exact ⟨hm, hf⟩

theorem conditionStarts_reads {s t : State} (i : MonitorId) (hm : s.mu = t.mu) (hf : s.fp = t.fp) :
    (conditionStarts i s).mu = (conditionStarts i t).mu ∧ (conditionStarts i s).fp = (conditionStarts i t).fp := by
  unfold conditionStarts
  rw [mon_eq i hm]
  exact activate_reads i (setMon_mu i _ hm) (by simp [hf])

theorem conditionEnds_reads {s t : State} (i : MonitorId) (hm : s.mu = t.mu) (hf : s.fp = t.fp) :
    (conditionEnds i s).mu = (conditionEnds i t).mu ∧ (conditionEnds i s).fp = (conditionEnds i t).fp := by
  unfold conditionEnds
  rw [mon_eq i hm]
  exact finish_reads i (setMon_mu i _ hm) (by simp [hf])

end Sys2Proof.Machine
end

