-- ==== Sys2Proof/Laws/Units.lean ====
section
/-! SUPPORT. What the operations of the units leave unchanged, block by block: one lemma for each operation. -/

namespace Sys2Proof.Machine

/-! ### Juice attributor -/

/-- `unallocate` leaves these blocks unchanged. -/
@[simp] theorem unallocate_frame (j : Nat) (s : State) :
    (unallocate j s).part = s.part ∧ (unallocate j s).li = s.li ∧ (unallocate j s).pt = s.pt ∧
    (unallocate j s).wu = s.wu ∧ (unallocate j s).tu = s.tu ∧ (unallocate j s).cc = s.cc ∧
    (unallocate j s).cl = s.cl ∧ (unallocate j s).ra = s.ra ∧ (unallocate j s).mu = s.mu ∧
    (unallocate j s).fp = s.fp ∧ (unallocate j s).clock = s.clock ∧ (unallocate j s).wires = s.wires ∧
    (unallocate j s).pending = s.pending := by
  simp [unallocate]

/-- `creditMeasured` leaves these blocks unchanged. -/
@[simp] theorem creditMeasured_frame (j : Nat) (shares : List Share) (s : State) :
    (creditMeasured j shares s).part = s.part ∧ (creditMeasured j shares s).li = s.li ∧
    (creditMeasured j shares s).pt = s.pt ∧ (creditMeasured j shares s).wu = s.wu ∧
    (creditMeasured j shares s).tu = s.tu ∧ (creditMeasured j shares s).cc = s.cc ∧
    (creditMeasured j shares s).ra = s.ra ∧ (creditMeasured j shares s).mu = s.mu ∧
    (creditMeasured j shares s).fp = s.fp ∧ (creditMeasured j shares s).clock = s.clock ∧
    (creditMeasured j shares s).wires = s.wires ∧ (creditMeasured j shares s).pending = s.pending := by
  simp [creditMeasured]

/-- `creditEstimated` leaves these blocks unchanged. -/
@[simp] theorem creditEstimated_frame (j : Nat) (shares : List Share) (s : State) :
    (creditEstimated j shares s).part = s.part ∧ (creditEstimated j shares s).li = s.li ∧
    (creditEstimated j shares s).pt = s.pt ∧ (creditEstimated j shares s).wu = s.wu ∧
    (creditEstimated j shares s).tu = s.tu ∧ (creditEstimated j shares s).cc = s.cc ∧
    (creditEstimated j shares s).ra = s.ra ∧ (creditEstimated j shares s).mu = s.mu ∧
    (creditEstimated j shares s).fp = s.fp ∧ (creditEstimated j shares s).clock = s.clock ∧
    (creditEstimated j shares s).wires = s.wires ∧ (creditEstimated j shares s).pending = s.pending := by
  simp [creditEstimated]

/-- `attributeCane` leaves these blocks unchanged. -/
@[simp] theorem attributeCane_frame (j : Nat) (shares : List Share) (s : State) :
    (attributeCane j shares s).part = s.part ∧ (attributeCane j shares s).li = s.li ∧
    (attributeCane j shares s).pt = s.pt ∧ (attributeCane j shares s).wu = s.wu ∧
    (attributeCane j shares s).tu = s.tu ∧ (attributeCane j shares s).cc = s.cc ∧
    (attributeCane j shares s).ra = s.ra ∧ (attributeCane j shares s).fp = s.fp ∧
    (attributeCane j shares s).clock = s.clock ∧ (attributeCane j shares s).wires = s.wires ∧
    (attributeCane j shares s).pending = s.pending := by
  unfold attributeCane
  try dsimp only
  (repeat' split) <;> simp

/-- `releaseLots` leaves these blocks unchanged. -/
@[simp] theorem releaseLots_frame (s : State) :
    (releaseLots s).part = s.part ∧ (releaseLots s).pt = s.pt ∧ (releaseLots s).wu = s.wu ∧
    (releaseLots s).tu = s.tu ∧ (releaseLots s).cc = s.cc ∧ (releaseLots s).ja = s.ja ∧ (releaseLots s).ra = s.ra ∧
    (releaseLots s).clock = s.clock ∧ (releaseLots s).wires = s.wires ∧ (releaseLots s).pending = s.pending := by
  unfold releaseLots
  refine ⟨?_, ?_, ?_, ?_, ?_, ?_, ?_, ?_, ?_, ?_⟩ <;>
    first | rfl | exact (foldl_view _ _ (fun b a => by simp) _ _).trans (by simp)

/-- `attribution` leaves these blocks unchanged. -/
@[simp] theorem attribution_frame (j : Nat) (number : BitVec 32) (s : State) :
    (attribution j number s).part = s.part ∧ (attribution j number s).pt = s.pt ∧
    (attribution j number s).wu = s.wu ∧ (attribution j number s).tu = s.tu ∧ (attribution j number s).cc = s.cc ∧
    (attribution j number s).ra = s.ra ∧ (attribution j number s).clock = s.clock ∧
    (attribution j number s).wires = s.wires ∧ (attribution j number s).pending = s.pending := by
  unfold attribution
  try dsimp only
  (repeat' split) <;> simp

/-- `settlePeriod` leaves these blocks unchanged. -/
@[simp] theorem settlePeriod_frame (forced : Bool) (s : State) :
    (settlePeriod forced s).part = s.part ∧ (settlePeriod forced s).li = s.li ∧ (settlePeriod forced s).pt = s.pt ∧
    (settlePeriod forced s).wu = s.wu ∧ (settlePeriod forced s).tu = s.tu ∧ (settlePeriod forced s).cc = s.cc ∧
    (settlePeriod forced s).cl = s.cl ∧ (settlePeriod forced s).ra = s.ra ∧ (settlePeriod forced s).mu = s.mu ∧
    (settlePeriod forced s).fp = s.fp ∧ (settlePeriod forced s).clock = s.clock ∧
    (settlePeriod forced s).wires = s.wires ∧ (settlePeriod forced s).pending = s.pending := by
  simp [settlePeriod]

/-- `openPeriod` leaves these blocks unchanged. -/
@[simp] theorem openPeriod_frame (s : State) :
    (openPeriod s).part = s.part ∧ (openPeriod s).li = s.li ∧ (openPeriod s).pt = s.pt ∧ (openPeriod s).wu = s.wu ∧
    (openPeriod s).tu = s.tu ∧ (openPeriod s).cc = s.cc ∧ (openPeriod s).cl = s.cl ∧ (openPeriod s).ra = s.ra ∧
    (openPeriod s).mu = s.mu ∧ (openPeriod s).fp = s.fp ∧ (openPeriod s).clock = s.clock ∧
    (openPeriod s).wires = s.wires ∧ (openPeriod s).pending = s.pending := by
  simp [openPeriod]

/-- `reportMeterSilent` leaves these blocks unchanged. -/
@[simp] theorem reportMeterSilent_frame (before : Bool) (s : State) :
    (reportMeterSilent before s).part = s.part ∧ (reportMeterSilent before s).li = s.li ∧
    (reportMeterSilent before s).pt = s.pt ∧ (reportMeterSilent before s).wu = s.wu ∧
    (reportMeterSilent before s).tu = s.tu ∧ (reportMeterSilent before s).cc = s.cc ∧
    (reportMeterSilent before s).cl = s.cl ∧ (reportMeterSilent before s).ja = s.ja ∧
    (reportMeterSilent before s).ra = s.ra ∧ (reportMeterSilent before s).mu = s.mu ∧
    (reportMeterSilent before s).clock = s.clock ∧ (reportMeterSilent before s).wires = s.wires ∧
    (reportMeterSilent before s).pending = s.pending := by
  unfold reportMeterSilent
  try dsimp only
  (repeat' split) <;> simp

/-- `closePeriod` leaves these blocks unchanged. -/
@[simp] theorem closePeriod_frame (forced : Bool) (s : State) :
    (closePeriod forced s).part = s.part ∧ (closePeriod forced s).pt = s.pt ∧ (closePeriod forced s).wu = s.wu ∧
    (closePeriod forced s).tu = s.tu ∧ (closePeriod forced s).cc = s.cc ∧ (closePeriod forced s).ra = s.ra ∧
    (closePeriod forced s).clock = s.clock ∧ (closePeriod forced s).wires = s.wires ∧
    (closePeriod forced s).pending = s.pending := by
  simp [closePeriod]

/-! ### Crush line -/

/-- `roomForShare` leaves these blocks unchanged. -/
@[simp] theorem roomForShare_frame (k : LotKey) (s : State) :
    (roomForShare k s).part = s.part ∧ (roomForShare k s).pt = s.pt ∧ (roomForShare k s).wu = s.wu ∧
    (roomForShare k s).tu = s.tu ∧ (roomForShare k s).cc = s.cc ∧ (roomForShare k s).ra = s.ra ∧
    (roomForShare k s).clock = s.clock ∧ (roomForShare k s).wires = s.wires ∧ (roomForShare k s).pending = s.pending := by
  unfold roomForShare
  try dsimp only
  (repeat' split) <;> simp

/-- `givePortion` leaves these blocks unchanged. -/
@[simp] theorem givePortion_frame (k : LotKey) (s : State) :
    (givePortion k s).part = s.part ∧ (givePortion k s).pt = s.pt ∧ (givePortion k s).wu = s.wu ∧
    (givePortion k s).tu = s.tu ∧ (givePortion k s).cc = s.cc ∧ (givePortion k s).ra = s.ra ∧
    (givePortion k s).clock = s.clock ∧ (givePortion k s).wires = s.wires ∧ (givePortion k s).pending = s.pending := by
  unfold givePortion
  try dsimp only
  (repeat' split) <;> simp

/-- `advanceMouth` leaves these blocks unchanged. -/
@[simp] theorem advanceMouth_frame (p : Position) (s : State) :
    (advanceMouth p s).part = s.part ∧ (advanceMouth p s).pt = s.pt ∧ (advanceMouth p s).wu = s.wu ∧
    (advanceMouth p s).tu = s.tu ∧ (advanceMouth p s).cc = s.cc ∧ (advanceMouth p s).ra = s.ra ∧
    (advanceMouth p s).clock = s.clock ∧ (advanceMouth p s).wires = s.wires ∧ (advanceMouth p s).pending = s.pending := by
  unfold advanceMouth
  refine ⟨?_, ?_, ?_, ?_, ?_, ?_, ?_, ?_, ?_⟩ <;>
    first | rfl | exact (foldl_view _ _ (fun b a => by simp) _ _).trans (by simp)

/-- `enterLot` leaves these blocks unchanged. -/
@[simp] theorem enterLot_frame (l : Lot) (s : State) :
    (enterLot l s).part = s.part ∧ (enterLot l s).li = s.li ∧ (enterLot l s).pt = s.pt ∧ (enterLot l s).wu = s.wu ∧
    (enterLot l s).tu = s.tu ∧ (enterLot l s).cc = s.cc ∧ (enterLot l s).ja = s.ja ∧ (enterLot l s).ra = s.ra ∧
    (enterLot l s).mu = s.mu ∧ (enterLot l s).fp = s.fp ∧ (enterLot l s).clock = s.clock ∧
    (enterLot l s).wires = s.wires ∧ (enterLot l s).pending = s.pending := by
  simp [enterLot]

/-- `crushPositions` leaves these blocks unchanged. -/
@[simp] theorem crushPositions_frame (k : LotKey) (n : Nat) (s : State) :
    (crushPositions k n s).part = s.part ∧ (crushPositions k n s).pt = s.pt ∧ (crushPositions k n s).wu = s.wu ∧
    (crushPositions k n s).tu = s.tu ∧ (crushPositions k n s).cc = s.cc ∧ (crushPositions k n s).ra = s.ra ∧
    (crushPositions k n s).clock = s.clock ∧ (crushPositions k n s).wires = s.wires ∧
    (crushPositions k n s).pending = s.pending := by
  induction n generalizing s with
  | zero => simp [crushPositions]
  | succ n ih => simp [crushPositions, ih]

/-- `writeOff` leaves these blocks unchanged. -/
@[simp] theorem writeOff_frame (n : TipNotice) (mass : Nat) (flags : LotFlags) (s : State) :
    (writeOff n mass flags s).part = s.part ∧ (writeOff n mass flags s).pt = s.pt ∧
    (writeOff n mass flags s).wu = s.wu ∧ (writeOff n mass flags s).tu = s.tu ∧ (writeOff n mass flags s).cc = s.cc ∧
    (writeOff n mass flags s).ja = s.ja ∧ (writeOff n mass flags s).ra = s.ra ∧
    (writeOff n mass flags s).clock = s.clock ∧ (writeOff n mass flags s).wires = s.wires ∧
    (writeOff n mass flags s).pending = s.pending := by
  simp [writeOff]

/-- `placeLot` leaves these blocks unchanged. -/
@[simp] theorem placeLot_frame (n : TipNotice) (mass : Nat) (corrected : Bool) (s : State) :
    (placeLot n mass corrected s).part = s.part ∧ (placeLot n mass corrected s).pt = s.pt ∧
    (placeLot n mass corrected s).wu = s.wu ∧ (placeLot n mass corrected s).tu = s.tu ∧
    (placeLot n mass corrected s).cc = s.cc ∧ (placeLot n mass corrected s).ra = s.ra ∧
    (placeLot n mass corrected s).clock = s.clock ∧ (placeLot n mass corrected s).wires = s.wires ∧
    (placeLot n mass corrected s).pending = s.pending := by
  unfold placeLot
  try dsimp only
  (repeat' split) <;> simp

/-- `takeTip` leaves these blocks unchanged. -/
@[simp] theorem takeTip_frame (n : TipNotice) (s : State) :
    (takeTip n s).part = s.part ∧ (takeTip n s).pt = s.pt ∧ (takeTip n s).wu = s.wu ∧ (takeTip n s).tu = s.tu ∧
    (takeTip n s).cc = s.cc ∧ (takeTip n s).ra = s.ra ∧ (takeTip n s).clock = s.clock ∧
    (takeTip n s).wires = s.wires ∧ (takeTip n s).pending = s.pending := by
  unfold takeTip
  try dsimp only
  (repeat' split) <;> simp

/-- `enterPendingNet` leaves these blocks unchanged. -/
@[simp] theorem enterPendingNet_frame (key : Key) (net : Nat) (s : State) :
    (enterPendingNet key net s).part = s.part ∧ (enterPendingNet key net s).pt = s.pt ∧
    (enterPendingNet key net s).wu = s.wu ∧ (enterPendingNet key net s).tu = s.tu ∧
    (enterPendingNet key net s).cc = s.cc ∧ (enterPendingNet key net s).ja = s.ja ∧
    (enterPendingNet key net s).ra = s.ra ∧ (enterPendingNet key net s).mu = s.mu ∧
    (enterPendingNet key net s).fp = s.fp ∧ (enterPendingNet key net s).clock = s.clock ∧
    (enterPendingNet key net s).wires = s.wires ∧ (enterPendingNet key net s).pending = s.pending := by
  unfold enterPendingNet
  try dsimp only
  (repeat' split) <;> simp

/-- `takeNetAtMill` leaves these blocks unchanged. -/
@[simp] theorem takeNetAtMill_frame (n : NetNotice) (s : State) :
    (takeNetAtMill n s).part = s.part ∧ (takeNetAtMill n s).pt = s.pt ∧ (takeNetAtMill n s).wu = s.wu ∧
    (takeNetAtMill n s).tu = s.tu ∧ (takeNetAtMill n s).cc = s.cc ∧ (takeNetAtMill n s).ja = s.ja ∧
    (takeNetAtMill n s).ra = s.ra ∧ (takeNetAtMill n s).mu = s.mu ∧ (takeNetAtMill n s).fp = s.fp ∧
    (takeNetAtMill n s).clock = s.clock ∧ (takeNetAtMill n s).wires = s.wires ∧
    (takeNetAtMill n s).pending = s.pending := by
  unfold takeNetAtMill
  try dsimp only
  (repeat' split) <;> simp

/-- `zeroDay` leaves these blocks unchanged. -/
@[simp] theorem zeroDay_frame (s : State) :
    (zeroDay s).part = s.part ∧ (zeroDay s).li = s.li ∧ (zeroDay s).pt = s.pt ∧ (zeroDay s).wu = s.wu ∧
    (zeroDay s).tu = s.tu ∧ (zeroDay s).cc = s.cc ∧ (zeroDay s).ra = s.ra ∧ (zeroDay s).mu = s.mu ∧
    (zeroDay s).fp = s.fp ∧ (zeroDay s).clock = s.clock ∧ (zeroDay s).wires = s.wires ∧
    (zeroDay s).pending = s.pending := by
  simp [zeroDay]

/-- `takeDayEndAtMill` leaves these blocks unchanged. -/
@[simp] theorem takeDayEndAtMill_frame (n : DayEndNotice) (s : State) :
    (takeDayEndAtMill n s).part = s.part ∧ (takeDayEndAtMill n s).pt = s.pt ∧ (takeDayEndAtMill n s).wu = s.wu ∧
    (takeDayEndAtMill n s).tu = s.tu ∧ (takeDayEndAtMill n s).cc = s.cc ∧ (takeDayEndAtMill n s).ra = s.ra ∧
    (takeDayEndAtMill n s).clock = s.clock ∧ (takeDayEndAtMill n s).wires = s.wires ∧
    (takeDayEndAtMill n s).pending = s.pending := by
  simp [takeDayEndAtMill]

/-! ### Carrier counter -/

/-- `countAges` leaves these blocks unchanged. -/
@[simp] theorem countAges_frame (s : State) :
    (countAges s).part = s.part ∧ (countAges s).pt = s.pt ∧ (countAges s).wu = s.wu ∧ (countAges s).cc = s.cc ∧
    (countAges s).cl = s.cl ∧ (countAges s).ja = s.ja ∧ (countAges s).ra = s.ra ∧ (countAges s).mu = s.mu ∧
    (countAges s).fp = s.fp ∧ (countAges s).clock = s.clock ∧ (countAges s).wires = s.wires ∧
    (countAges s).pending = s.pending := by
  simp [countAges]

/-- `netForwardStep` leaves these blocks unchanged. -/
@[simp] theorem netForwardStep_frame (s : State) :
    (netForwardStep s).part = s.part ∧ (netForwardStep s).pt = s.pt ∧ (netForwardStep s).wu = s.wu ∧
    (netForwardStep s).ra = s.ra ∧ (netForwardStep s).clock = s.clock ∧ (netForwardStep s).wires = s.wires ∧
    (netForwardStep s).pending = s.pending := by
  unfold netForwardStep
  try dsimp only
  (repeat' split) <;> simp

/-- `forwardStep` leaves these blocks unchanged. -/
@[simp] theorem forwardStep_frame (s : State) :
    (forwardStep s).part = s.part ∧ (forwardStep s).pt = s.pt ∧ (forwardStep s).wu = s.wu ∧
    (forwardStep s).ra = s.ra ∧ (forwardStep s).clock = s.clock ∧ (forwardStep s).wires = s.wires ∧
    (forwardStep s).pending = s.pending := by
  unfold forwardStep
  try dsimp only
  (repeat' split) <;> simp

/-- `markOverrun` leaves these blocks unchanged. -/
@[simp] theorem markOverrun_frame (s : State) :
    (markOverrun s).part = s.part ∧ (markOverrun s).li = s.li ∧ (markOverrun s).pt = s.pt ∧
    (markOverrun s).wu = s.wu ∧ (markOverrun s).cc = s.cc ∧ (markOverrun s).cl = s.cl ∧ (markOverrun s).ja = s.ja ∧
    (markOverrun s).ra = s.ra ∧ (markOverrun s).mu = s.mu ∧ (markOverrun s).fp = s.fp ∧
    (markOverrun s).clock = s.clock ∧ (markOverrun s).wires = s.wires ∧ (markOverrun s).pending = s.pending := by
  unfold markOverrun
  try dsimp only
  (repeat' split) <;> simp

/-- `reverseStep` leaves these blocks unchanged. -/
@[simp] theorem reverseStep_frame (s : State) :
    (reverseStep s).part = s.part ∧ (reverseStep s).li = s.li ∧ (reverseStep s).pt = s.pt ∧
    (reverseStep s).wu = s.wu ∧ (reverseStep s).cl = s.cl ∧ (reverseStep s).ra = s.ra ∧
    (reverseStep s).clock = s.clock ∧ (reverseStep s).wires = s.wires ∧ (reverseStep s).pending = s.pending := by
  unfold reverseStep
  try dsimp only
  (repeat' split) <;> simp

/-- `stallObservation` leaves these blocks unchanged. -/
@[simp] theorem stallObservation_frame (s : State) :
    (stallObservation s).part = s.part ∧ (stallObservation s).li = s.li ∧ (stallObservation s).pt = s.pt ∧
    (stallObservation s).wu = s.wu ∧ (stallObservation s).tu = s.tu ∧ (stallObservation s).cl = s.cl ∧
    (stallObservation s).ra = s.ra ∧ (stallObservation s).clock = s.clock ∧ (stallObservation s).wires = s.wires ∧
    (stallObservation s).pending = s.pending := by
  simp [stallObservation]

/-- `stallEnds` leaves these blocks unchanged. -/
@[simp] theorem stallEnds_frame (s : State) :
    (stallEnds s).part = s.part ∧ (stallEnds s).li = s.li ∧ (stallEnds s).pt = s.pt ∧ (stallEnds s).wu = s.wu ∧
    (stallEnds s).tu = s.tu ∧ (stallEnds s).cc = s.cc ∧ (stallEnds s).cl = s.cl ∧ (stallEnds s).ra = s.ra ∧
    (stallEnds s).clock = s.clock ∧ (stallEnds s).wires = s.wires ∧ (stallEnds s).pending = s.pending := by
  simp [stallEnds]

/-- `liveObservation` leaves these blocks unchanged. -/
@[simp] theorem liveObservation_frame (s : State) :
    (liveObservation s).part = s.part ∧ (liveObservation s).li = s.li ∧ (liveObservation s).pt = s.pt ∧
    (liveObservation s).wu = s.wu ∧ (liveObservation s).tu = s.tu ∧ (liveObservation s).cl = s.cl ∧
    (liveObservation s).ra = s.ra ∧ (liveObservation s).clock = s.clock ∧ (liveObservation s).wires = s.wires ∧
    (liveObservation s).pending = s.pending := by
  simp [liveObservation]

/-- `countRunPulse` leaves these blocks unchanged. -/
@[simp] theorem countRunPulse_frame (s : State) :
    (countRunPulse s).part = s.part ∧ (countRunPulse s).li = s.li ∧ (countRunPulse s).pt = s.pt ∧
    (countRunPulse s).wu = s.wu ∧ (countRunPulse s).tu = s.tu ∧ (countRunPulse s).cl = s.cl ∧
    (countRunPulse s).ja = s.ja ∧ (countRunPulse s).ra = s.ra ∧ (countRunPulse s).mu = s.mu ∧
    (countRunPulse s).fp = s.fp ∧ (countRunPulse s).clock = s.clock ∧ (countRunPulse s).wires = s.wires ∧
    (countRunPulse s).pending = s.pending := by
  simp [countRunPulse]

/-- `measurePulse` leaves these blocks unchanged. -/
@[simp] theorem measurePulse_frame (s : State) :
    (measurePulse s).part = s.part ∧ (measurePulse s).li = s.li ∧ (measurePulse s).pt = s.pt ∧
    (measurePulse s).wu = s.wu ∧ (measurePulse s).tu = s.tu ∧ (measurePulse s).cl = s.cl ∧
    (measurePulse s).ra = s.ra ∧ (measurePulse s).clock = s.clock ∧ (measurePulse s).wires = s.wires ∧
    (measurePulse s).pending = s.pending := by
  unfold measurePulse
  try dsimp only
  (repeat' split) <;> simp

/-! ### Tip unit -/

/-- `takeGrossAtTip` leaves these blocks unchanged. -/
@[simp] theorem takeGrossAtTip_frame (n : GrossNotice) (s : State) :
    (takeGrossAtTip n s).part = s.part ∧ (takeGrossAtTip n s).pt = s.pt ∧ (takeGrossAtTip n s).wu = s.wu ∧
    (takeGrossAtTip n s).cc = s.cc ∧ (takeGrossAtTip n s).cl = s.cl ∧ (takeGrossAtTip n s).ja = s.ja ∧
    (takeGrossAtTip n s).ra = s.ra ∧ (takeGrossAtTip n s).mu = s.mu ∧ (takeGrossAtTip n s).fp = s.fp ∧
    (takeGrossAtTip n s).clock = s.clock ∧ (takeGrossAtTip n s).wires = s.wires ∧
    (takeGrossAtTip n s).pending = s.pending := by
  unfold takeGrossAtTip
  try dsimp only
  (repeat' split) <;> simp

/-- `takeNetAtTip` leaves these blocks unchanged. -/
@[simp] theorem takeNetAtTip_frame (n : NetNotice) (s : State) :
    (takeNetAtTip n s).part = s.part ∧ (takeNetAtTip n s).li = s.li ∧ (takeNetAtTip n s).pt = s.pt ∧
    (takeNetAtTip n s).wu = s.wu ∧ (takeNetAtTip n s).cc = s.cc ∧ (takeNetAtTip n s).cl = s.cl ∧
    (takeNetAtTip n s).ja = s.ja ∧ (takeNetAtTip n s).ra = s.ra ∧ (takeNetAtTip n s).mu = s.mu ∧
    (takeNetAtTip n s).fp = s.fp ∧ (takeNetAtTip n s).clock = s.clock ∧ (takeNetAtTip n s).wires = s.wires ∧
    (takeNetAtTip n s).pending = s.pending := by
  simp [takeNetAtTip]

/-- `armFound` leaves these blocks unchanged. -/
@[simp] theorem armFound_frame (e : AwaitingEntry) (m : Nat) (s : State) :
    (armFound e m s).part = s.part ∧ (armFound e m s).li = s.li ∧ (armFound e m s).pt = s.pt ∧
    (armFound e m s).wu = s.wu ∧ (armFound e m s).cc = s.cc ∧ (armFound e m s).cl = s.cl ∧
    (armFound e m s).ja = s.ja ∧ (armFound e m s).ra = s.ra ∧ (armFound e m s).mu = s.mu ∧
    (armFound e m s).fp = s.fp ∧ (armFound e m s).clock = s.clock ∧ (armFound e m s).wires = s.wires ∧
    (armFound e m s).pending = s.pending := by
  simp [armFound]

/-- `armSynthetic` leaves these blocks unchanged. -/
@[simp] theorem armSynthetic_frame (s : State) :
    (armSynthetic s).part = s.part ∧ (armSynthetic s).li = s.li ∧ (armSynthetic s).pt = s.pt ∧
    (armSynthetic s).wu = s.wu ∧ (armSynthetic s).cc = s.cc ∧ (armSynthetic s).cl = s.cl ∧
    (armSynthetic s).ja = s.ja ∧ (armSynthetic s).ra = s.ra ∧ (armSynthetic s).mu = s.mu ∧
    (armSynthetic s).fp = s.fp ∧ (armSynthetic s).clock = s.clock ∧ (armSynthetic s).wires = s.wires ∧
    (armSynthetic s).pending = s.pending := by
  simp [armSynthetic]

/-- `takeAssign` leaves these blocks unchanged. -/
@[simp] theorem takeAssign_frame (p : List Byte) (s : State) :
    (takeAssign p s).part = s.part ∧ (takeAssign p s).li = s.li ∧ (takeAssign p s).pt = s.pt ∧
    (takeAssign p s).wu = s.wu ∧ (takeAssign p s).cc = s.cc ∧ (takeAssign p s).cl = s.cl ∧
    (takeAssign p s).ja = s.ja ∧ (takeAssign p s).ra = s.ra ∧ (takeAssign p s).mu = s.mu ∧
    (takeAssign p s).fp = s.fp ∧ (takeAssign p s).clock = s.clock ∧ (takeAssign p s).wires = s.wires ∧
    (takeAssign p s).pending = s.pending := by
  unfold takeAssign
  try dsimp only
  (repeat' split) <;> simp

/-- `ownAssign` leaves these blocks unchanged. -/
@[simp] theorem ownAssign_frame (p : List Byte) (s : State) :
    (ownAssign p s).part = s.part ∧ (ownAssign p s).li = s.li ∧ (ownAssign p s).pt = s.pt ∧
    (ownAssign p s).wu = s.wu ∧ (ownAssign p s).cc = s.cc ∧ (ownAssign p s).cl = s.cl ∧ (ownAssign p s).ja = s.ja ∧
    (ownAssign p s).ra = s.ra ∧ (ownAssign p s).mu = s.mu ∧ (ownAssign p s).clock = s.clock ∧
    (ownAssign p s).wires = s.wires ∧ (ownAssign p s).pending = s.pending := by
  unfold ownAssign
  try dsimp only
  (repeat' split) <;> simp

/-- `ownDisarm` leaves these blocks unchanged. -/
@[simp] theorem ownDisarm_frame (s : State) :
    (ownDisarm s).part = s.part ∧ (ownDisarm s).li = s.li ∧ (ownDisarm s).pt = s.pt ∧ (ownDisarm s).wu = s.wu ∧
    (ownDisarm s).cc = s.cc ∧ (ownDisarm s).cl = s.cl ∧ (ownDisarm s).ja = s.ja ∧ (ownDisarm s).ra = s.ra ∧
    (ownDisarm s).mu = s.mu ∧ (ownDisarm s).clock = s.clock ∧ (ownDisarm s).wires = s.wires ∧
    (ownDisarm s).pending = s.pending := by
  unfold ownDisarm
  try dsimp only
  (repeat' split) <;> simp

/-- `endSession` leaves these blocks unchanged. -/
@[simp] theorem endSession_frame (s : State) :
    (endSession s).part = s.part ∧ (endSession s).li = s.li ∧ (endSession s).pt = s.pt ∧ (endSession s).wu = s.wu ∧
    (endSession s).cc = s.cc ∧ (endSession s).cl = s.cl ∧ (endSession s).ja = s.ja ∧ (endSession s).ra = s.ra ∧
    (endSession s).mu = s.mu ∧ (endSession s).fp = s.fp ∧ (endSession s).clock = s.clock ∧
    (endSession s).wires = s.wires ∧ (endSession s).pending = s.pending := by
  simp [endSession]

/-- `tipLot` leaves these blocks unchanged. -/
@[simp] theorem tipLot_frame (a : Arming) (s : State) :
    (tipLot a s).part = s.part ∧ (tipLot a s).pt = s.pt ∧ (tipLot a s).wu = s.wu ∧ (tipLot a s).cc = s.cc ∧
    (tipLot a s).cl = s.cl ∧ (tipLot a s).ja = s.ja ∧ (tipLot a s).ra = s.ra ∧ (tipLot a s).clock = s.clock ∧
    (tipLot a s).wires = s.wires ∧ (tipLot a s).pending = s.pending := by
  simp [tipLot]

/-! ### Weigh unit -/

/-- `takeVehicle` leaves these blocks unchanged. -/
@[simp] theorem takeVehicle_frame (v : Vehicle) (s : State) :
    (takeVehicle v s).part = s.part ∧ (takeVehicle v s).li = s.li ∧ (takeVehicle v s).pt = s.pt ∧
    (takeVehicle v s).tu = s.tu ∧ (takeVehicle v s).cc = s.cc ∧ (takeVehicle v s).cl = s.cl ∧
    (takeVehicle v s).ja = s.ja ∧ (takeVehicle v s).ra = s.ra ∧ (takeVehicle v s).mu = s.mu ∧
    (takeVehicle v s).clock = s.clock ∧ (takeVehicle v s).wires = s.wires ∧ (takeVehicle v s).pending = s.pending := by
  unfold takeVehicle
  try dsimp only
  (repeat' split) <;> simp

/-- `ownVehicle` leaves these blocks unchanged. -/
@[simp] theorem ownVehicle_frame (p : List Byte) (s : State) :
    (ownVehicle p s).part = s.part ∧ (ownVehicle p s).li = s.li ∧ (ownVehicle p s).pt = s.pt ∧
    (ownVehicle p s).tu = s.tu ∧ (ownVehicle p s).cc = s.cc ∧ (ownVehicle p s).cl = s.cl ∧
    (ownVehicle p s).ja = s.ja ∧ (ownVehicle p s).ra = s.ra ∧ (ownVehicle p s).mu = s.mu ∧
    (ownVehicle p s).clock = s.clock ∧ (ownVehicle p s).wires = s.wires ∧ (ownVehicle p s).pending = s.pending := by
  unfold ownVehicle
  try dsimp only
  (repeat' split) <;> simp

/-- `grossCapture` leaves these blocks unchanged. -/
@[simp] theorem grossCapture_frame (mass : Nat) (v : Vehicle) (s : State) :
    (grossCapture mass v s).part = s.part ∧ (grossCapture mass v s).pt = s.pt ∧ (grossCapture mass v s).tu = s.tu ∧
    (grossCapture mass v s).cc = s.cc ∧ (grossCapture mass v s).cl = s.cl ∧ (grossCapture mass v s).ja = s.ja ∧
    (grossCapture mass v s).ra = s.ra ∧ (grossCapture mass v s).clock = s.clock ∧
    (grossCapture mass v s).wires = s.wires ∧ (grossCapture mass v s).pending = s.pending := by
  simp [grossCapture]

/-- `removeOpen` leaves these blocks unchanged. -/
@[simp] theorem removeOpen_frame (key : Key) (s : State) :
    (removeOpen key s).part = s.part ∧ (removeOpen key s).li = s.li ∧ (removeOpen key s).pt = s.pt ∧
    (removeOpen key s).tu = s.tu ∧ (removeOpen key s).cc = s.cc ∧ (removeOpen key s).cl = s.cl ∧
    (removeOpen key s).ja = s.ja ∧ (removeOpen key s).ra = s.ra ∧ (removeOpen key s).mu = s.mu ∧
    (removeOpen key s).fp = s.fp ∧ (removeOpen key s).clock = s.clock ∧ (removeOpen key s).wires = s.wires ∧
    (removeOpen key s).pending = s.pending := by
  simp [removeOpen]

/-- `tareCapture` leaves these blocks unchanged. -/
@[simp] theorem tareCapture_frame (mass : Nat) (v : Vehicle) (s : State) :
    (tareCapture mass v s).part = s.part ∧ (tareCapture mass v s).pt = s.pt ∧ (tareCapture mass v s).tu = s.tu ∧
    (tareCapture mass v s).cc = s.cc ∧ (tareCapture mass v s).cl = s.cl ∧ (tareCapture mass v s).ja = s.ja ∧
    (tareCapture mass v s).ra = s.ra ∧ (tareCapture mass v s).clock = s.clock ∧
    (tareCapture mass v s).wires = s.wires ∧ (tareCapture mass v s).pending = s.pending := by
  unfold tareCapture
  try dsimp only
  (repeat' split) <;> simp

/-- `completeCapture` leaves these blocks unchanged. -/
@[simp] theorem completeCapture_frame (mass : Nat) (s : State) :
    (completeCapture mass s).part = s.part ∧ (completeCapture mass s).pt = s.pt ∧
    (completeCapture mass s).tu = s.tu ∧ (completeCapture mass s).cc = s.cc ∧ (completeCapture mass s).cl = s.cl ∧
    (completeCapture mass s).ja = s.ja ∧ (completeCapture mass s).ra = s.ra ∧
    (completeCapture mass s).clock = s.clock ∧ (completeCapture mass s).wires = s.wires ∧
    (completeCapture mass s).pending = s.pending := by
  unfold completeCapture
  try dsimp only
  (repeat' split) <;> simp

/-- `startRun` leaves these blocks unchanged. -/
@[simp] theorem startRun_frame (r : Reading) (s : State) :
    (startRun r s).part = s.part ∧ (startRun r s).li = s.li ∧ (startRun r s).pt = s.pt ∧ (startRun r s).tu = s.tu ∧
    (startRun r s).cc = s.cc ∧ (startRun r s).cl = s.cl ∧ (startRun r s).ja = s.ja ∧ (startRun r s).ra = s.ra ∧
    (startRun r s).mu = s.mu ∧ (startRun r s).fp = s.fp ∧ (startRun r s).clock = s.clock ∧
    (startRun r s).wires = s.wires ∧ (startRun r s).pending = s.pending := by
  simp [startRun]

/-- `captureStep` leaves these blocks unchanged. -/
@[simp] theorem captureStep_frame (r : Reading) (s : State) :
    (captureStep r s).part = s.part ∧ (captureStep r s).pt = s.pt ∧ (captureStep r s).tu = s.tu ∧
    (captureStep r s).cc = s.cc ∧ (captureStep r s).cl = s.cl ∧ (captureStep r s).ja = s.ja ∧
    (captureStep r s).ra = s.ra ∧ (captureStep r s).clock = s.clock ∧ (captureStep r s).wires = s.wires ∧
    (captureStep r s).pending = s.pending := by
  unfold captureStep
  try dsimp only
  (repeat' split) <;> simp

/-- `scaleOverStep` leaves these blocks unchanged. -/
@[simp] theorem scaleOverStep_frame (r : Reading) (s : State) :
    (scaleOverStep r s).part = s.part ∧ (scaleOverStep r s).li = s.li ∧ (scaleOverStep r s).pt = s.pt ∧
    (scaleOverStep r s).wu = s.wu ∧ (scaleOverStep r s).tu = s.tu ∧ (scaleOverStep r s).cc = s.cc ∧
    (scaleOverStep r s).cl = s.cl ∧ (scaleOverStep r s).ja = s.ja ∧ (scaleOverStep r s).ra = s.ra ∧
    (scaleOverStep r s).clock = s.clock ∧ (scaleOverStep r s).wires = s.wires ∧
    (scaleOverStep r s).pending = s.pending := by
  unfold scaleOverStep
  try dsimp only
  (repeat' split) <;> simp [observe_ja, endingEvent_ja]

/-- `zeroStep` leaves these blocks unchanged. -/
@[simp] theorem zeroStep_frame (r : Reading) (s : State) :
    (zeroStep r s).part = s.part ∧ (zeroStep r s).li = s.li ∧ (zeroStep r s).pt = s.pt ∧ (zeroStep r s).tu = s.tu ∧
    (zeroStep r s).cc = s.cc ∧ (zeroStep r s).cl = s.cl ∧ (zeroStep r s).ja = s.ja ∧ (zeroStep r s).ra = s.ra ∧
    (zeroStep r s).mu = s.mu ∧ (zeroStep r s).fp = s.fp ∧ (zeroStep r s).clock = s.clock ∧
    (zeroStep r s).wires = s.wires ∧ (zeroStep r s).pending = s.pending := by
  unfold zeroStep
  try dsimp only
  (repeat' split) <;> simp

/-- `takeReading` leaves these blocks unchanged. -/
@[simp] theorem takeReading_frame (r : Reading) (s : State) :
    (takeReading r s).part = s.part ∧ (takeReading r s).pt = s.pt ∧ (takeReading r s).tu = s.tu ∧
    (takeReading r s).cc = s.cc ∧ (takeReading r s).cl = s.cl ∧ (takeReading r s).ja = s.ja ∧
    (takeReading r s).ra = s.ra ∧ (takeReading r s).clock = s.clock ∧ (takeReading r s).wires = s.wires ∧
    (takeReading r s).pending = s.pending := by
  simp [takeReading]

/-- `ownWeight` leaves these blocks unchanged. -/
@[simp] theorem ownWeight_frame (p : List Byte) (s : State) :
    (ownWeight p s).part = s.part ∧ (ownWeight p s).pt = s.pt ∧ (ownWeight p s).tu = s.tu ∧
    (ownWeight p s).cc = s.cc ∧ (ownWeight p s).cl = s.cl ∧ (ownWeight p s).ja = s.ja ∧ (ownWeight p s).ra = s.ra ∧
    (ownWeight p s).clock = s.clock ∧ (ownWeight p s).wires = s.wires ∧ (ownWeight p s).pending = s.pending := by
  unfold ownWeight
  try dsimp only
  (repeat' split) <;> simp

/-- `expireOpen` leaves these blocks unchanged. -/
@[simp] theorem expireOpen_frame (e : OpenEntry) (s : State) :
    (expireOpen e s).part = s.part ∧ (expireOpen e s).pt = s.pt ∧ (expireOpen e s).tu = s.tu ∧
    (expireOpen e s).cc = s.cc ∧ (expireOpen e s).cl = s.cl ∧ (expireOpen e s).ja = s.ja ∧
    (expireOpen e s).ra = s.ra ∧ (expireOpen e s).clock = s.clock ∧ (expireOpen e s).wires = s.wires ∧
    (expireOpen e s).pending = s.pending := by
  simp [expireOpen]

/-- `joinOpen` leaves these blocks unchanged. -/
@[simp] theorem joinOpen_frame (n : GrossNotice) (s : State) :
    (joinOpen n s).part = s.part ∧ (joinOpen n s).li = s.li ∧ (joinOpen n s).pt = s.pt ∧ (joinOpen n s).tu = s.tu ∧
    (joinOpen n s).cc = s.cc ∧ (joinOpen n s).cl = s.cl ∧ (joinOpen n s).ja = s.ja ∧ (joinOpen n s).ra = s.ra ∧
    (joinOpen n s).mu = s.mu ∧ (joinOpen n s).fp = s.fp ∧ (joinOpen n s).clock = s.clock ∧
    (joinOpen n s).wires = s.wires ∧ (joinOpen n s).pending = s.pending := by
  simp [joinOpen]

/-- `takeGrossAtExit` leaves these blocks unchanged. -/
@[simp] theorem takeGrossAtExit_frame (n : GrossNotice) (s : State) :
    (takeGrossAtExit n s).part = s.part ∧ (takeGrossAtExit n s).pt = s.pt ∧ (takeGrossAtExit n s).tu = s.tu ∧
    (takeGrossAtExit n s).cc = s.cc ∧ (takeGrossAtExit n s).cl = s.cl ∧ (takeGrossAtExit n s).ja = s.ja ∧
    (takeGrossAtExit n s).ra = s.ra ∧ (takeGrossAtExit n s).clock = s.clock ∧ (takeGrossAtExit n s).wires = s.wires ∧
    (takeGrossAtExit n s).pending = s.pending := by
  unfold takeGrossAtExit
  try dsimp only
  (repeat' split) <;> simp

/-! ### Record assembler -/

/-- `setTable` leaves these blocks unchanged. -/
@[simp] theorem setTable_frame (t : List AsmEntry) (s : State) :
    (setTable t s).part = s.part ∧ (setTable t s).li = s.li ∧ (setTable t s).pt = s.pt ∧ (setTable t s).wu = s.wu ∧
    (setTable t s).tu = s.tu ∧ (setTable t s).cc = s.cc ∧ (setTable t s).cl = s.cl ∧ (setTable t s).ja = s.ja ∧
    (setTable t s).mu = s.mu ∧ (setTable t s).fp = s.fp ∧ (setTable t s).clock = s.clock ∧
    (setTable t s).wires = s.wires ∧ (setTable t s).pending = s.pending := by
  simp [setTable]

/-- `enterStore` leaves these blocks unchanged. -/
@[simp] theorem enterStore_frame (c : Closed) (s : State) :
    (enterStore c s).part = s.part ∧ (enterStore c s).li = s.li ∧ (enterStore c s).pt = s.pt ∧
    (enterStore c s).wu = s.wu ∧ (enterStore c s).tu = s.tu ∧ (enterStore c s).cc = s.cc ∧
    (enterStore c s).cl = s.cl ∧ (enterStore c s).ja = s.ja ∧ (enterStore c s).clock = s.clock ∧
    (enterStore c s).wires = s.wires ∧ (enterStore c s).pending = s.pending := by
  unfold enterStore
  try dsimp only
  (repeat' split) <;> simp [conditionStarts_ja]

/-- `enterWhileRoom` leaves these blocks unchanged. -/
@[simp] theorem enterWhileRoom_frame (l : List Closed) (s : State) :
    (enterWhileRoom l s).part = s.part ∧ (enterWhileRoom l s).li = s.li ∧ (enterWhileRoom l s).pt = s.pt ∧
    (enterWhileRoom l s).wu = s.wu ∧ (enterWhileRoom l s).tu = s.tu ∧ (enterWhileRoom l s).cc = s.cc ∧
    (enterWhileRoom l s).cl = s.cl ∧ (enterWhileRoom l s).ja = s.ja ∧ (enterWhileRoom l s).clock = s.clock ∧
    (enterWhileRoom l s).wires = s.wires ∧ (enterWhileRoom l s).pending = s.pending := by
  induction l generalizing s with
  | nil => simp [enterWhileRoom]
  | cons c l ih =>
    unfold enterWhileRoom
    split
    · simp [ih]
    · simp

/-- `moveReady` leaves these blocks unchanged. -/
@[simp] theorem moveReady_frame (s : State) :
    (moveReady s).part = s.part ∧ (moveReady s).li = s.li ∧ (moveReady s).pt = s.pt ∧ (moveReady s).wu = s.wu ∧
    (moveReady s).tu = s.tu ∧ (moveReady s).cc = s.cc ∧ (moveReady s).cl = s.cl ∧ (moveReady s).ja = s.ja ∧
    (moveReady s).clock = s.clock ∧ (moveReady s).wires = s.wires ∧ (moveReady s).pending = s.pending := by
  simp [moveReady]

/-- `makeReady` leaves these blocks unchanged. -/
@[simp] theorem makeReady_frame (c : Closed) (s : State) :
    (makeReady c s).part = s.part ∧ (makeReady c s).li = s.li ∧ (makeReady c s).pt = s.pt ∧
    (makeReady c s).wu = s.wu ∧ (makeReady c s).tu = s.tu ∧ (makeReady c s).cc = s.cc ∧ (makeReady c s).cl = s.cl ∧
    (makeReady c s).ja = s.ja ∧ (makeReady c s).clock = s.clock ∧ (makeReady c s).wires = s.wires ∧
    (makeReady c s).pending = s.pending := by
  simp [makeReady]

/-- `closeEntry` leaves these blocks unchanged. -/
@[simp] theorem closeEntry_frame (cause : CloseCause) (e : AsmEntry) (s : State) :
    (closeEntry cause e s).part = s.part ∧ (closeEntry cause e s).li = s.li ∧ (closeEntry cause e s).pt = s.pt ∧
    (closeEntry cause e s).wu = s.wu ∧ (closeEntry cause e s).tu = s.tu ∧ (closeEntry cause e s).cc = s.cc ∧
    (closeEntry cause e s).cl = s.cl ∧ (closeEntry cause e s).ja = s.ja ∧ (closeEntry cause e s).clock = s.clock ∧
    (closeEntry cause e s).wires = s.wires ∧ (closeEntry cause e s).pending = s.pending := by
  simp [closeEntry]

/-- `applied` leaves these blocks unchanged. -/
@[simp] theorem applied_frame (e : AsmEntry) (s : State) :
    (applied e s).part = s.part ∧ (applied e s).li = s.li ∧ (applied e s).pt = s.pt ∧ (applied e s).wu = s.wu ∧
    (applied e s).tu = s.tu ∧ (applied e s).cc = s.cc ∧ (applied e s).cl = s.cl ∧ (applied e s).ja = s.ja ∧
    (applied e s).clock = s.clock ∧ (applied e s).wires = s.wires ∧ (applied e s).pending = s.pending := by
  unfold applied
  try dsimp only
  (repeat' split) <;> simp

/-- `applyTo` leaves these blocks unchanged. -/
@[simp] theorem applyTo_frame (f : EntryChange) (e : AsmEntry) (s : State) :
    (applyTo f e s).part = s.part ∧ (applyTo f e s).pt = s.pt ∧ (applyTo f e s).wu = s.wu ∧
    (applyTo f e s).tu = s.tu ∧ (applyTo f e s).cc = s.cc ∧ (applyTo f e s).cl = s.cl ∧ (applyTo f e s).ja = s.ja ∧
    (applyTo f e s).clock = s.clock ∧ (applyTo f e s).wires = s.wires ∧ (applyTo f e s).pending = s.pending := by
  unfold applyTo
  try dsimp only
  (repeat' split) <;> simp

/-- `labApply` leaves these blocks unchanged. -/
@[simp] theorem labApply_frame (k : Key) (f : EntryChange) (s : State) :
    (labApply k f s).part = s.part ∧ (labApply k f s).pt = s.pt ∧ (labApply k f s).wu = s.wu ∧
    (labApply k f s).tu = s.tu ∧ (labApply k f s).cc = s.cc ∧ (labApply k f s).cl = s.cl ∧
    (labApply k f s).ja = s.ja ∧ (labApply k f s).clock = s.clock ∧ (labApply k f s).wires = s.wires ∧
    (labApply k f s).pending = s.pending := by
  unfold labApply
  try dsimp only
  (repeat' split) <;> simp

/-- `takeGrossAtLab` leaves these blocks unchanged. -/
@[simp] theorem takeGrossAtLab_frame (n : GrossNotice) (s : State) :
    (takeGrossAtLab n s).part = s.part ∧ (takeGrossAtLab n s).pt = s.pt ∧ (takeGrossAtLab n s).wu = s.wu ∧
    (takeGrossAtLab n s).tu = s.tu ∧ (takeGrossAtLab n s).cc = s.cc ∧ (takeGrossAtLab n s).cl = s.cl ∧
    (takeGrossAtLab n s).ja = s.ja ∧ (takeGrossAtLab n s).clock = s.clock ∧ (takeGrossAtLab n s).wires = s.wires ∧
    (takeGrossAtLab n s).pending = s.pending := by
  simp [takeGrossAtLab]

/-- `takeNetAtLab` leaves these blocks unchanged. -/
@[simp] theorem takeNetAtLab_frame (n : NetNotice) (s : State) :
    (takeNetAtLab n s).part = s.part ∧ (takeNetAtLab n s).pt = s.pt ∧ (takeNetAtLab n s).wu = s.wu ∧
    (takeNetAtLab n s).tu = s.tu ∧ (takeNetAtLab n s).cc = s.cc ∧ (takeNetAtLab n s).cl = s.cl ∧
    (takeNetAtLab n s).ja = s.ja ∧ (takeNetAtLab n s).clock = s.clock ∧ (takeNetAtLab n s).wires = s.wires ∧
    (takeNetAtLab n s).pending = s.pending := by
  simp [takeNetAtLab]

/-- `takeLotCrushed` leaves these blocks unchanged. -/
@[simp] theorem takeLotCrushed_frame (n : LotCrushedNotice) (s : State) :
    (takeLotCrushed n s).part = s.part ∧ (takeLotCrushed n s).pt = s.pt ∧ (takeLotCrushed n s).wu = s.wu ∧
    (takeLotCrushed n s).tu = s.tu ∧ (takeLotCrushed n s).cc = s.cc ∧ (takeLotCrushed n s).cl = s.cl ∧
    (takeLotCrushed n s).ja = s.ja ∧ (takeLotCrushed n s).clock = s.clock ∧ (takeLotCrushed n s).wires = s.wires ∧
    (takeLotCrushed n s).pending = s.pending := by
  simp [takeLotCrushed]

/-- `takeAnalysis` leaves these blocks unchanged. -/
@[simp] theorem takeAnalysis_frame (k : Key) (a : Analysis) (s : State) :
    (takeAnalysis k a s).part = s.part ∧ (takeAnalysis k a s).li = s.li ∧ (takeAnalysis k a s).pt = s.pt ∧
    (takeAnalysis k a s).wu = s.wu ∧ (takeAnalysis k a s).tu = s.tu ∧ (takeAnalysis k a s).cc = s.cc ∧
    (takeAnalysis k a s).cl = s.cl ∧ (takeAnalysis k a s).ja = s.ja ∧ (takeAnalysis k a s).clock = s.clock ∧
    (takeAnalysis k a s).wires = s.wires ∧ (takeAnalysis k a s).pending = s.pending := by
  simp [takeAnalysis]

/-- `ownAnalysis` leaves these blocks unchanged. -/
@[simp] theorem ownAnalysis_frame (p : List Byte) (s : State) :
    (ownAnalysis p s).part = s.part ∧ (ownAnalysis p s).li = s.li ∧ (ownAnalysis p s).pt = s.pt ∧
    (ownAnalysis p s).wu = s.wu ∧ (ownAnalysis p s).tu = s.tu ∧ (ownAnalysis p s).cc = s.cc ∧
    (ownAnalysis p s).cl = s.cl ∧ (ownAnalysis p s).ja = s.ja ∧ (ownAnalysis p s).clock = s.clock ∧
    (ownAnalysis p s).wires = s.wires ∧ (ownAnalysis p s).pending = s.pending := by
  unfold ownAnalysis
  try dsimp only
  (repeat' split) <;> simp

/-- `ownRead` leaves these blocks unchanged. -/
@[simp] theorem ownRead_frame (s : State) :
    (ownRead s).part = s.part ∧ (ownRead s).li = s.li ∧ (ownRead s).pt = s.pt ∧ (ownRead s).wu = s.wu ∧
    (ownRead s).tu = s.tu ∧ (ownRead s).cc = s.cc ∧ (ownRead s).cl = s.cl ∧ (ownRead s).ja = s.ja ∧
    (ownRead s).mu = s.mu ∧ (ownRead s).clock = s.clock ∧ (ownRead s).wires = s.wires ∧
    (ownRead s).pending = s.pending := by
  unfold ownRead
  try dsimp only
  (repeat' split) <;> simp

/-- `decideStoreFull` leaves these blocks unchanged. -/
@[simp] theorem decideStoreFull_frame (s : State) :
    (decideStoreFull s).part = s.part ∧ (decideStoreFull s).li = s.li ∧ (decideStoreFull s).pt = s.pt ∧
    (decideStoreFull s).wu = s.wu ∧ (decideStoreFull s).tu = s.tu ∧ (decideStoreFull s).cc = s.cc ∧
    (decideStoreFull s).cl = s.cl ∧ (decideStoreFull s).ja = s.ja ∧ (decideStoreFull s).ra = s.ra ∧
    (decideStoreFull s).clock = s.clock ∧ (decideStoreFull s).wires = s.wires ∧
    (decideStoreFull s).pending = s.pending := by
  unfold decideStoreFull
  split <;> simp [conditionEnds_ja]

/-- `takeRelease` leaves these blocks unchanged. -/
@[simp] theorem takeRelease_frame (n : Nat) (s : State) :
    (takeRelease n s).part = s.part ∧ (takeRelease n s).li = s.li ∧ (takeRelease n s).pt = s.pt ∧
    (takeRelease n s).wu = s.wu ∧ (takeRelease n s).tu = s.tu ∧ (takeRelease n s).cc = s.cc ∧
    (takeRelease n s).cl = s.cl ∧ (takeRelease n s).ja = s.ja ∧ (takeRelease n s).clock = s.clock ∧
    (takeRelease n s).wires = s.wires ∧ (takeRelease n s).pending = s.pending := by
  simp [takeRelease]

/-- `ownRelease` leaves these blocks unchanged. -/
@[simp] theorem ownRelease_frame (p : List Byte) (s : State) :
    (ownRelease p s).part = s.part ∧ (ownRelease p s).li = s.li ∧ (ownRelease p s).pt = s.pt ∧
    (ownRelease p s).wu = s.wu ∧ (ownRelease p s).tu = s.tu ∧ (ownRelease p s).cc = s.cc ∧
    (ownRelease p s).cl = s.cl ∧ (ownRelease p s).ja = s.ja ∧ (ownRelease p s).clock = s.clock ∧
    (ownRelease p s).wires = s.wires ∧ (ownRelease p s).pending = s.pending := by
  unfold ownRelease
  try dsimp only
  (repeat' split) <;> simp

/-- `takeDayEndRecord` leaves these blocks unchanged. -/
@[simp] theorem takeDayEndRecord_frame (s : State) :
    (takeDayEndRecord s).pt = s.pt ∧ (takeDayEndRecord s).tu = s.tu ∧ (takeDayEndRecord s).cc = s.cc ∧
    (takeDayEndRecord s).cl = s.cl ∧ (takeDayEndRecord s).ja = s.ja ∧ (takeDayEndRecord s).clock = s.clock ∧
    (takeDayEndRecord s).wires = s.wires ∧ (takeDayEndRecord s).pending = s.pending := by
  simp [takeDayEndRecord]

/-- `ownDayEnd` leaves these blocks unchanged. -/
@[simp] theorem ownDayEnd_frame (s : State) :
    (ownDayEnd s).pt = s.pt ∧ (ownDayEnd s).tu = s.tu ∧ (ownDayEnd s).cc = s.cc ∧ (ownDayEnd s).cl = s.cl ∧
    (ownDayEnd s).ja = s.ja ∧ (ownDayEnd s).clock = s.clock ∧ (ownDayEnd s).wires = s.wires ∧
    (ownDayEnd s).pending = s.pending := by
  unfold ownDayEnd
  try dsimp only
  (repeat' split) <;> simp

/-- `endWait` leaves these blocks unchanged. -/
@[simp] theorem endWait_frame (w : SummaryWait) (mill : Option MillCounters) (s : State) :
    (endWait w mill s).part = s.part ∧ (endWait w mill s).li = s.li ∧ (endWait w mill s).pt = s.pt ∧
    (endWait w mill s).wu = s.wu ∧ (endWait w mill s).tu = s.tu ∧ (endWait w mill s).cc = s.cc ∧
    (endWait w mill s).cl = s.cl ∧ (endWait w mill s).ja = s.ja ∧ (endWait w mill s).clock = s.clock ∧
    (endWait w mill s).wires = s.wires ∧ (endWait w mill s).pending = s.pending := by
  simp [endWait]

/-- `takeDaySummary` leaves these blocks unchanged. -/
@[simp] theorem takeDaySummary_frame (n : DaySummary) (s : State) :
    (takeDaySummary n s).part = s.part ∧ (takeDaySummary n s).li = s.li ∧ (takeDaySummary n s).pt = s.pt ∧
    (takeDaySummary n s).wu = s.wu ∧ (takeDaySummary n s).tu = s.tu ∧ (takeDaySummary n s).cc = s.cc ∧
    (takeDaySummary n s).cl = s.cl ∧ (takeDaySummary n s).ja = s.ja ∧ (takeDaySummary n s).clock = s.clock ∧
    (takeDaySummary n s).wires = s.wires ∧ (takeDaySummary n s).pending = s.pending := by
  unfold takeDaySummary
  try dsimp only
  (repeat' split) <;> simp

/-! ### Reception -/

/-- `frameTaken` leaves these blocks unchanged. -/
@[simp] theorem frameTaken_frame (s : State) :
    (frameTaken s).part = s.part ∧ (frameTaken s).pt = s.pt ∧ (frameTaken s).wu = s.wu ∧ (frameTaken s).tu = s.tu ∧
    (frameTaken s).cc = s.cc ∧ (frameTaken s).cl = s.cl ∧ (frameTaken s).ja = s.ja ∧ (frameTaken s).ra = s.ra ∧
    (frameTaken s).mu = s.mu ∧ (frameTaken s).fp = s.fp ∧ (frameTaken s).clock = s.clock ∧
    (frameTaken s).wires = s.wires ∧ (frameTaken s).pending = s.pending := by
  simp [frameTaken]

/-- `countBadSource` leaves these blocks unchanged. -/
@[simp] theorem countBadSource_frame (s : State) :
    (countBadSource s).part = s.part ∧ (countBadSource s).pt = s.pt ∧ (countBadSource s).wu = s.wu ∧
    (countBadSource s).tu = s.tu ∧ (countBadSource s).cc = s.cc ∧ (countBadSource s).cl = s.cl ∧
    (countBadSource s).ja = s.ja ∧ (countBadSource s).ra = s.ra ∧ (countBadSource s).mu = s.mu ∧
    (countBadSource s).fp = s.fp ∧ (countBadSource s).clock = s.clock ∧ (countBadSource s).wires = s.wires ∧
    (countBadSource s).pending = s.pending := by
  simp [countBadSource]

/-- `countUnknownKind` leaves these blocks unchanged. -/
@[simp] theorem countUnknownKind_frame (s : State) :
    (countUnknownKind s).part = s.part ∧ (countUnknownKind s).pt = s.pt ∧ (countUnknownKind s).wu = s.wu ∧
    (countUnknownKind s).tu = s.tu ∧ (countUnknownKind s).cc = s.cc ∧ (countUnknownKind s).cl = s.cl ∧
    (countUnknownKind s).ja = s.ja ∧ (countUnknownKind s).ra = s.ra ∧ (countUnknownKind s).mu = s.mu ∧
    (countUnknownKind s).fp = s.fp ∧ (countUnknownKind s).clock = s.clock ∧ (countUnknownKind s).wires = s.wires ∧
    (countUnknownKind s).pending = s.pending := by
  simp [countUnknownKind]

/-- `takeBeacon` leaves these blocks unchanged. -/
@[simp] theorem takeBeacon_frame (sender : Role) (b : Beacon) (s : State) :
    (takeBeacon sender b s).li = s.li ∧ (takeBeacon sender b s).pt = s.pt ∧ (takeBeacon sender b s).tu = s.tu ∧
    (takeBeacon sender b s).cc = s.cc ∧ (takeBeacon sender b s).cl = s.cl ∧ (takeBeacon sender b s).ja = s.ja ∧
    (takeBeacon sender b s).ra = s.ra ∧ (takeBeacon sender b s).mu = s.mu ∧ (takeBeacon sender b s).clock = s.clock ∧
    (takeBeacon sender b s).wires = s.wires ∧ (takeBeacon sender b s).pending = s.pending := by
  unfold takeBeacon
  try dsimp only
  (repeat' split) <;> simp

/-- `takeDayEndNotice` leaves these blocks unchanged. -/
@[simp] theorem takeDayEndNotice_frame (n : DayEndNotice) (s : State) :
    (takeDayEndNotice n s).pt = s.pt ∧ (takeDayEndNotice n s).tu = s.tu ∧ (takeDayEndNotice n s).cc = s.cc ∧
    (takeDayEndNotice n s).ra = s.ra ∧ (takeDayEndNotice n s).clock = s.clock ∧
    (takeDayEndNotice n s).wires = s.wires ∧ (takeDayEndNotice n s).pending = s.pending := by
  unfold takeDayEndNotice
  try dsimp only
  (repeat' split) <;> simp

/-- `takeGross` leaves these blocks unchanged. -/
@[simp] theorem takeGross_frame (n : GrossNotice) (s : State) :
    (takeGross n s).part = s.part ∧ (takeGross n s).pt = s.pt ∧ (takeGross n s).cc = s.cc ∧
    (takeGross n s).cl = s.cl ∧ (takeGross n s).ja = s.ja ∧ (takeGross n s).clock = s.clock ∧
    (takeGross n s).wires = s.wires ∧ (takeGross n s).pending = s.pending := by
  unfold takeGross
  try dsimp only
  (repeat' split) <;> simp

/-- `takeNet` leaves these blocks unchanged. -/
@[simp] theorem takeNet_frame (n : NetNotice) (s : State) :
    (takeNet n s).part = s.part ∧ (takeNet n s).pt = s.pt ∧ (takeNet n s).wu = s.wu ∧ (takeNet n s).cc = s.cc ∧
    (takeNet n s).ja = s.ja ∧ (takeNet n s).clock = s.clock ∧ (takeNet n s).wires = s.wires ∧
    (takeNet n s).pending = s.pending := by
  unfold takeNet
  try dsimp only
  (repeat' split) <;> simp

/-- `actOn` leaves these blocks unchanged. -/
@[simp] theorem actOn_frame (sender : Role) (r : Received) (s : State) :
    (actOn sender r s).pt = s.pt ∧ (actOn sender r s).cc = s.cc ∧ (actOn sender r s).clock = s.clock ∧
    (actOn sender r s).wires = s.wires ∧ (actOn sender r s).pending = s.pending := by
  unfold actOn
  try dsimp only
  (repeat' split) <;> simp

/-- `checkNotice` leaves these blocks unchanged. -/
@[simp] theorem checkNotice_frame (h : FrameHeader) (sender : Role) (kind : Nat) (p : List Byte) (s : State) :
    (checkNotice h sender kind p s).pt = s.pt ∧ (checkNotice h sender kind p s).cc = s.cc ∧
    (checkNotice h sender kind p s).clock = s.clock ∧ (checkNotice h sender kind p s).wires = s.wires ∧
    (checkNotice h sender kind p s).pending = s.pending := by
  unfold checkNotice
  try dsimp only
  (repeat' split) <;> simp

/-- `tableUpdated` leaves these blocks unchanged. -/
@[simp] theorem tableUpdated_frame (h : FrameHeader) (sender : Role) (kind : Nat) (p : List Byte) (s : State) :
    (tableUpdated h sender kind p s).part = s.part ∧ (tableUpdated h sender kind p s).li = s.li ∧
    (tableUpdated h sender kind p s).wu = s.wu ∧ (tableUpdated h sender kind p s).tu = s.tu ∧
    (tableUpdated h sender kind p s).cc = s.cc ∧ (tableUpdated h sender kind p s).cl = s.cl ∧
    (tableUpdated h sender kind p s).ja = s.ja ∧ (tableUpdated h sender kind p s).ra = s.ra ∧
    (tableUpdated h sender kind p s).clock = s.clock ∧ (tableUpdated h sender kind p s).wires = s.wires ∧
    (tableUpdated h sender kind p s).pending = s.pending := by
  simp [tableUpdated]

/-- `acceptFrame` leaves these blocks unchanged. -/
@[simp] theorem acceptFrame_frame (h : FrameHeader) (sender : Role) (kind : Nat) (p : List Byte) (s : State) :
    (acceptFrame h sender kind p s).cc = s.cc ∧ (acceptFrame h sender kind p s).clock = s.clock ∧
    (acceptFrame h sender kind p s).wires = s.wires ∧ (acceptFrame h sender kind p s).pending = s.pending := by
  unfold acceptFrame
  try dsimp only
  (repeat' split) <;> simp

/-- `passFrame` leaves these blocks unchanged. -/
@[simp] theorem passFrame_frame (h : FrameHeader) (sender : Role) (kind : Nat) (p : List Byte) (s : State) :
    (passFrame h sender kind p s).cc = s.cc ∧ (passFrame h sender kind p s).clock = s.clock ∧
    (passFrame h sender kind p s).wires = s.wires ∧ (passFrame h sender kind p s).pending = s.pending := by
  unfold passFrame
  try dsimp only
  (repeat' split) <;> simp

/-- `receive` leaves these blocks unchanged. -/
@[simp] theorem receive_frame (h : FrameHeader) (kind : Nat) (p : List Byte) (s : State) :
    (receive h kind p s).cc = s.cc ∧ (receive h kind p s).clock = s.clock ∧ (receive h kind p s).wires = s.wires ∧
    (receive h kind p s).pending = s.pending := by
  unfold receive
  try dsimp only
  (repeat' split) <;> simp

/-! ### Field port -/

/-- `discardRecord` leaves these blocks unchanged. -/
@[simp] theorem discardRecord_frame (s : State) :
    (discardRecord s).part = s.part ∧ (discardRecord s).li = s.li ∧ (discardRecord s).pt = s.pt ∧
    (discardRecord s).wu = s.wu ∧ (discardRecord s).tu = s.tu ∧ (discardRecord s).cc = s.cc ∧
    (discardRecord s).cl = s.cl ∧ (discardRecord s).ja = s.ja ∧ (discardRecord s).ra = s.ra ∧
    (discardRecord s).mu = s.mu ∧ (discardRecord s).clock = s.clock ∧ (discardRecord s).wires = s.wires ∧
    (discardRecord s).pending = s.pending := by
  unfold discardRecord
  try dsimp only
  (repeat' split) <;> simp

/-- `ownStatusRequest` leaves these blocks unchanged. -/
@[simp] theorem ownStatusRequest_frame (p : List Byte) (s : State) :
    (ownStatusRequest p s).part = s.part ∧ (ownStatusRequest p s).li = s.li ∧ (ownStatusRequest p s).pt = s.pt ∧
    (ownStatusRequest p s).wu = s.wu ∧ (ownStatusRequest p s).tu = s.tu ∧ (ownStatusRequest p s).cc = s.cc ∧
    (ownStatusRequest p s).cl = s.cl ∧ (ownStatusRequest p s).ja = s.ja ∧ (ownStatusRequest p s).ra = s.ra ∧
    (ownStatusRequest p s).mu = s.mu ∧ (ownStatusRequest p s).clock = s.clock ∧
    (ownStatusRequest p s).wires = s.wires ∧ (ownStatusRequest p s).pending = s.pending := by
  unfold ownStatusRequest
  try dsimp only
  (repeat' split) <;> simp

/-- `clearOne` leaves these blocks unchanged. -/
@[simp] theorem clearOne_frame (s : State) (i : MonitorId) :
    (clearOne s i).part = s.part ∧ (clearOne s i).li = s.li ∧ (clearOne s i).pt = s.pt ∧ (clearOne s i).wu = s.wu ∧
    (clearOne s i).tu = s.tu ∧ (clearOne s i).cc = s.cc ∧ (clearOne s i).cl = s.cl ∧ (clearOne s i).ra = s.ra ∧
    (clearOne s i).clock = s.clock ∧ (clearOne s i).wires = s.wires ∧ (clearOne s i).pending = s.pending := by
  unfold clearOne
  try dsimp only
  (repeat' split) <;> simp

/-- `zeroCount` leaves these blocks unchanged. -/
@[simp] theorem zeroCount_frame (s : State) (i : MonitorId) :
    (zeroCount s i).part = s.part ∧ (zeroCount s i).li = s.li ∧ (zeroCount s i).pt = s.pt ∧
    (zeroCount s i).wu = s.wu ∧ (zeroCount s i).tu = s.tu ∧ (zeroCount s i).cc = s.cc ∧ (zeroCount s i).cl = s.cl ∧
    (zeroCount s i).ja = s.ja ∧ (zeroCount s i).ra = s.ra ∧ (zeroCount s i).fp = s.fp ∧
    (zeroCount s i).clock = s.clock ∧ (zeroCount s i).wires = s.wires ∧ (zeroCount s i).pending = s.pending := by
  simp [zeroCount]

/-- `takeClear` leaves these blocks unchanged. -/
@[simp] theorem takeClear_frame (s : State) :
    (takeClear s).part = s.part ∧ (takeClear s).li = s.li ∧ (takeClear s).pt = s.pt ∧ (takeClear s).wu = s.wu ∧
    (takeClear s).tu = s.tu ∧ (takeClear s).cc = s.cc ∧ (takeClear s).cl = s.cl ∧ (takeClear s).ra = s.ra ∧
    (takeClear s).clock = s.clock ∧ (takeClear s).wires = s.wires ∧ (takeClear s).pending = s.pending := by
  unfold takeClear
  refine ⟨?_, ?_, ?_, ?_, ?_, ?_, ?_, ?_, ?_, ?_, ?_⟩ <;>
    exact (foldl_view _ _ (fun b a => by simp) _ _).trans (foldl_view _ _ (fun b a => by simp) _ _)

/-- `ownConfigure` leaves these blocks unchanged. -/
@[simp] theorem ownConfigure_frame (p : List Byte) (s : State) :
    (ownConfigure p s).clock = s.clock ∧ (ownConfigure p s).wires = s.wires ∧ (ownConfigure p s).pending = s.pending := by
  unfold ownConfigure
  try dsimp only
  (repeat' split) <;> simp

/-- `takeRestart` leaves these blocks unchanged. -/
@[simp] theorem takeRestart_frame (s : State) :
    (takeRestart s).clock = s.clock ∧ (takeRestart s).wires = s.wires ∧ (takeRestart s).pending = s.pending := by
  unfold takeRestart
  try dsimp only
  (repeat' split) <;> simp

/-- `takeWithdraw` leaves these blocks unchanged. -/
@[simp] theorem takeWithdraw_frame (i : Nat) (s : State) :
    (takeWithdraw i s).part = s.part ∧ (takeWithdraw i s).pt = s.pt ∧ (takeWithdraw i s).wu = s.wu ∧
    (takeWithdraw i s).tu = s.tu ∧ (takeWithdraw i s).cc = s.cc ∧ (takeWithdraw i s).cl = s.cl ∧
    (takeWithdraw i s).ja = s.ja ∧ (takeWithdraw i s).ra = s.ra ∧ (takeWithdraw i s).clock = s.clock ∧
    (takeWithdraw i s).wires = s.wires ∧ (takeWithdraw i s).pending = s.pending := by
  unfold takeWithdraw
  try dsimp only
  (repeat' split) <;> simp

/-- `ownWithdraw` leaves these blocks unchanged. -/
@[simp] theorem ownWithdraw_frame (p : List Byte) (s : State) :
    (ownWithdraw p s).part = s.part ∧ (ownWithdraw p s).pt = s.pt ∧ (ownWithdraw p s).wu = s.wu ∧
    (ownWithdraw p s).tu = s.tu ∧ (ownWithdraw p s).cc = s.cc ∧ (ownWithdraw p s).cl = s.cl ∧
    (ownWithdraw p s).ja = s.ja ∧ (ownWithdraw p s).ra = s.ra ∧ (ownWithdraw p s).clock = s.clock ∧
    (ownWithdraw p s).wires = s.wires ∧ (ownWithdraw p s).pending = s.pending := by
  unfold ownWithdraw
  try dsimp only
  (repeat' split) <;> simp

end Sys2Proof.Machine
end

