-- ==== Sys2Proof/Laws/Commands.lean ====
section
/-! SUPPORT. What each command leaves unchanged, block by block. -/

namespace Sys2Proof.Machine

/-- A record leaves a view of the state alone when its owning rule and its refusals do. -/
theorem decideRecord_view {γ : Type} (g : State → γ) (k : RecordKind) (p : List Byte) (own : State → State) (s : State)
    (ho : g (own (hunting s)) = g s) (hr : ∀ code, g (replyTo k code (hunting s)) = g s) :
    g (decideRecord k p own s) = g s := by
  unfold decideRecord
  split
  · split
    · exact hr _
    · exact ho
  · rfl

theorem execPowerOn_frame {s t : State} (h : execPowerOn s = .next t) :
    t.wires = s.wires ∧ t.pending = s.pending := by
  cases h
  simp

theorem execPinReset_frame {s t : State} (h : execPinReset s = .next t) :
    t.wires = s.wires ∧ t.pending = s.pending := by
  cases h
  simp

theorem execPowerUpEnd_frame {station : StationNo} {roleA roleB : StrapLevel} {s t : State} (h : execPowerUpEnd station roleA roleB s = .next t) :
    t.li = s.li ∧ t.pt = s.pt ∧ t.wu = s.wu ∧ t.tu = s.tu ∧ t.cc = s.cc ∧ t.cl = s.cl ∧ t.ja = s.ja ∧
    t.ra = s.ra ∧ t.mu = s.mu ∧ t.clock = s.clock ∧ t.wires = s.wires ∧ t.pending = s.pending := by
  unfold execPowerUpEnd at h
  try dsimp only at h
  (repeat' split at h) <;> cases h <;> simp

theorem execLineQuiet_frame {s t : State} (h : execLineQuiet s = .next t) :
    t.part = s.part ∧ t.pt = s.pt ∧ t.wu = s.wu ∧ t.tu = s.tu ∧ t.cc = s.cc ∧ t.cl = s.cl ∧ t.ja = s.ja ∧
    t.ra = s.ra ∧ t.mu = s.mu ∧ t.fp = s.fp ∧ t.clock = s.clock ∧ t.wires = s.wires ∧ t.pending = s.pending := by
  unfold execLineQuiet at h
  try dsimp only at h
  (repeat' split at h) <;> cases h <;> simp

theorem execAttemptStart_frame {s t : State} (h : execAttemptStart s = .next t) :
    t.part = s.part ∧ t.pt = s.pt ∧ t.wu = s.wu ∧ t.tu = s.tu ∧ t.cc = s.cc ∧ t.cl = s.cl ∧ t.ja = s.ja ∧
    t.ra = s.ra ∧ t.mu = s.mu ∧ t.fp = s.fp ∧ t.clock = s.clock ∧ t.wires = s.wires ∧ t.pending = s.pending := by
  unfold execAttemptStart at h
  try dsimp only at h
  (repeat' split at h) <;> cases h <;> simp

theorem execAttemptComplete_frame {s t : State} (h : execAttemptComplete s = .next t) :
    t.part = s.part ∧ t.pt = s.pt ∧ t.wu = s.wu ∧ t.tu = s.tu ∧ t.cc = s.cc ∧ t.cl = s.cl ∧ t.ja = s.ja ∧
    t.ra = s.ra ∧ t.clock = s.clock ∧ t.wires = s.wires ∧ t.pending = s.pending := by
  unfold execAttemptComplete at h
  try dsimp only at h
  (repeat' split at h) <;> cases h <;> simp

theorem execCollision_frame {s t : State} (h : execCollision s = .next t) :
    t.part = s.part ∧ t.pt = s.pt ∧ t.wu = s.wu ∧ t.tu = s.tu ∧ t.cc = s.cc ∧ t.cl = s.cl ∧ t.ja = s.ja ∧
    t.ra = s.ra ∧ t.clock = s.clock ∧ t.wires = s.wires ∧ t.pending = s.pending := by
  unfold execCollision at h
  try dsimp only at h
  (repeat' split at h) <;> cases h <;> simp [conditionStarts_ja]

theorem execCollisionMarkEnd_frame {s t : State} (h : execCollisionMarkEnd s = .next t) :
    t.part = s.part ∧ t.pt = s.pt ∧ t.wu = s.wu ∧ t.tu = s.tu ∧ t.cc = s.cc ∧ t.cl = s.cl ∧ t.ja = s.ja ∧
    t.ra = s.ra ∧ t.mu = s.mu ∧ t.fp = s.fp ∧ t.clock = s.clock ∧ t.wires = s.wires ∧ t.pending = s.pending := by
  unfold execCollisionMarkEnd at h
  try dsimp only at h
  (repeat' split at h) <;> cases h <;> simp

theorem execBackoffEnd_frame {s t : State} (h : execBackoffEnd s = .next t) :
    t.part = s.part ∧ t.pt = s.pt ∧ t.wu = s.wu ∧ t.tu = s.tu ∧ t.cc = s.cc ∧ t.cl = s.cl ∧ t.ja = s.ja ∧
    t.ra = s.ra ∧ t.clock = s.clock ∧ t.wires = s.wires ∧ t.pending = s.pending := by
  unfold execBackoffEnd at h
  try dsimp only at h
  (repeat' split at h) <;> cases h <;> simp

theorem execFrameError_frame {status : FrameError} {s t : State} (h : execFrameError status s = .next t) :
    t.part = s.part ∧ t.pt = s.pt ∧ t.wu = s.wu ∧ t.tu = s.tu ∧ t.cc = s.cc ∧ t.cl = s.cl ∧ t.ja = s.ja ∧
    t.ra = s.ra ∧ t.mu = s.mu ∧ t.fp = s.fp ∧ t.clock = s.clock ∧ t.wires = s.wires ∧ t.pending = s.pending := by
  unfold execFrameError at h
  try dsimp only at h
  (repeat' split at h) <;> cases h <;> simp

theorem execReceiveBeacon_frame {header : FrameHeader} {payload : List Byte} {s t : State} (h : execReceiveBeacon header payload s = .next t) :
    t.cc = s.cc ∧ t.clock = s.clock ∧ t.wires = s.wires ∧ t.pending = s.pending := by
  cases h
  simp

theorem execReceiveGross_frame {header : FrameHeader} {payload : List Byte} {s t : State} (h : execReceiveGross header payload s = .next t) :
    t.cc = s.cc ∧ t.clock = s.clock ∧ t.wires = s.wires ∧ t.pending = s.pending := by
  cases h
  simp

theorem execReceiveNet_frame {header : FrameHeader} {payload : List Byte} {s t : State} (h : execReceiveNet header payload s = .next t) :
    t.cc = s.cc ∧ t.clock = s.clock ∧ t.wires = s.wires ∧ t.pending = s.pending := by
  cases h
  simp

theorem execReceiveTip_frame {header : FrameHeader} {payload : List Byte} {s t : State} (h : execReceiveTip header payload s = .next t) :
    t.cc = s.cc ∧ t.clock = s.clock ∧ t.wires = s.wires ∧ t.pending = s.pending := by
  cases h
  simp

theorem execReceiveLotCrushed_frame {header : FrameHeader} {payload : List Byte} {s t : State} (h : execReceiveLotCrushed header payload s = .next t) :
    t.cc = s.cc ∧ t.clock = s.clock ∧ t.wires = s.wires ∧ t.pending = s.pending := by
  cases h
  simp

theorem execReceiveDayEnd_frame {header : FrameHeader} {payload : List Byte} {s t : State} (h : execReceiveDayEnd header payload s = .next t) :
    t.cc = s.cc ∧ t.clock = s.clock ∧ t.wires = s.wires ∧ t.pending = s.pending := by
  cases h
  simp

theorem execReceiveDaySummary_frame {header : FrameHeader} {payload : List Byte} {s t : State} (h : execReceiveDaySummary header payload s = .next t) :
    t.cc = s.cc ∧ t.clock = s.clock ∧ t.wires = s.wires ∧ t.pending = s.pending := by
  cases h
  simp

theorem execReceiveUnknownKind_frame {header : FrameHeader} {kind : Byte} {payload : List Byte} {s t : State} (h : execReceiveUnknownKind header kind payload s = .next t) :
    t.cc = s.cc ∧ t.clock = s.clock ∧ t.wires = s.wires ∧ t.pending = s.pending := by
  cases h
  simp

theorem execStartedBeaconDue_frame {s t : State} (h : execStartedBeaconDue s = .next t) :
    t.part = s.part ∧ t.pt = s.pt ∧ t.wu = s.wu ∧ t.tu = s.tu ∧ t.cc = s.cc ∧ t.cl = s.cl ∧ t.ja = s.ja ∧
    t.ra = s.ra ∧ t.mu = s.mu ∧ t.fp = s.fp ∧ t.clock = s.clock ∧ t.wires = s.wires ∧ t.pending = s.pending := by
  unfold execStartedBeaconDue at h
  try dsimp only at h
  (repeat' split at h) <;> cases h <;> simp

theorem execRegularBeaconDue_frame {s t : State} (h : execRegularBeaconDue s = .next t) :
    t.part = s.part ∧ t.pt = s.pt ∧ t.wu = s.wu ∧ t.tu = s.tu ∧ t.cc = s.cc ∧ t.cl = s.cl ∧ t.ja = s.ja ∧
    t.ra = s.ra ∧ t.mu = s.mu ∧ t.fp = s.fp ∧ t.clock = s.clock ∧ t.wires = s.wires ∧ t.pending = s.pending := by
  unfold execRegularBeaconDue at h
  try dsimp only at h
  (repeat' split at h) <;> cases h <;> simp

theorem execPeerSilenceExpiry_frame {peer : StationNo} {s t : State} (h : execPeerSilenceExpiry peer s = .next t) :
    t.part = s.part ∧ t.li = s.li ∧ t.wu = s.wu ∧ t.tu = s.tu ∧ t.cc = s.cc ∧ t.cl = s.cl ∧ t.ja = s.ja ∧
    t.ra = s.ra ∧ t.clock = s.clock ∧ t.wires = s.wires ∧ t.pending = s.pending := by
  unfold execPeerSilenceExpiry at h
  try dsimp only at h
  (repeat' split at h) <;> cases h <;> simp

theorem execPeerAbsenceTimeout_frame {s t : State} (h : execPeerAbsenceTimeout s = .next t) :
    t.part = s.part ∧ t.li = s.li ∧ t.wu = s.wu ∧ t.tu = s.tu ∧ t.cc = s.cc ∧ t.cl = s.cl ∧ t.ja = s.ja ∧
    t.ra = s.ra ∧ t.clock = s.clock ∧ t.wires = s.wires ∧ t.pending = s.pending := by
  unfold execPeerAbsenceTimeout at h
  try dsimp only at h
  (repeat' split at h) <;> cases h <;> simp

theorem execRecordGapTimeout_frame {s t : State} (h : execRecordGapTimeout s = .next t) :
    t.part = s.part ∧ t.li = s.li ∧ t.pt = s.pt ∧ t.wu = s.wu ∧ t.tu = s.tu ∧ t.cc = s.cc ∧ t.cl = s.cl ∧
    t.ja = s.ja ∧ t.ra = s.ra ∧ t.mu = s.mu ∧ t.clock = s.clock ∧ t.wires = s.wires ∧ t.pending = s.pending := by
  cases h
  simp

theorem execRecordDiscard_frame {s t : State} (h : execRecordDiscard s = .next t) :
    t.part = s.part ∧ t.li = s.li ∧ t.pt = s.pt ∧ t.wu = s.wu ∧ t.tu = s.tu ∧ t.cc = s.cc ∧ t.cl = s.cl ∧
    t.ja = s.ja ∧ t.ra = s.ra ∧ t.mu = s.mu ∧ t.clock = s.clock ∧ t.wires = s.wires ∧ t.pending = s.pending := by
  cases h
  simp

theorem execRecordChecksumError_frame {kind : Byte} {s t : State} (h : execRecordChecksumError kind s = .next t) :
    t.part = s.part ∧ t.li = s.li ∧ t.pt = s.pt ∧ t.wu = s.wu ∧ t.tu = s.tu ∧ t.cc = s.cc ∧ t.cl = s.cl ∧
    t.ja = s.ja ∧ t.ra = s.ra ∧ t.mu = s.mu ∧ t.clock = s.clock ∧ t.wires = s.wires ∧ t.pending = s.pending := by
  unfold execRecordChecksumError at h
  try dsimp only at h
  (repeat' split at h) <;> cases h <;> simp

theorem execRecordUnknownKind_frame {kind : Byte} {s t : State} (h : execRecordUnknownKind kind s = .next t) :
    t.part = s.part ∧ t.li = s.li ∧ t.pt = s.pt ∧ t.wu = s.wu ∧ t.tu = s.tu ∧ t.cc = s.cc ∧ t.cl = s.cl ∧
    t.ja = s.ja ∧ t.ra = s.ra ∧ t.mu = s.mu ∧ t.clock = s.clock ∧ t.wires = s.wires ∧ t.pending = s.pending := by
  unfold execRecordUnknownKind at h
  try dsimp only at h
  (repeat' split at h) <;> cases h <;> simp

theorem execConfigure_frame {payload : List Byte} {s t : State} (h : execConfigure payload s = .next t) :
    t.clock = s.clock ∧ t.wires = s.wires ∧ t.pending = s.pending := by
  cases h
  exact ⟨decideRecord_view (·.clock) _ _ _ s (by simp) (by simp),
    decideRecord_view (·.wires) _ _ _ s (by simp) (by simp),
    decideRecord_view (·.pending) _ _ _ s (by simp) (by simp)⟩

theorem execStatusRequest_frame {payload : List Byte} {s t : State} (h : execStatusRequest payload s = .next t) :
    t.part = s.part ∧ t.li = s.li ∧ t.pt = s.pt ∧ t.wu = s.wu ∧ t.tu = s.tu ∧ t.cc = s.cc ∧ t.cl = s.cl ∧
    t.ja = s.ja ∧ t.ra = s.ra ∧ t.mu = s.mu ∧ t.clock = s.clock ∧ t.wires = s.wires ∧ t.pending = s.pending := by
  cases h
  exact ⟨decideRecord_view (·.part) _ _ _ s (by simp) (by simp),
    decideRecord_view (·.li) _ _ _ s (by simp) (by simp),
    decideRecord_view (·.pt) _ _ _ s (by simp) (by simp),
    decideRecord_view (·.wu) _ _ _ s (by simp) (by simp),
    decideRecord_view (·.tu) _ _ _ s (by simp) (by simp),
    decideRecord_view (·.cc) _ _ _ s (by simp) (by simp),
    decideRecord_view (·.cl) _ _ _ s (by simp) (by simp),
    decideRecord_view (·.ja) _ _ _ s (by simp) (by simp),
    decideRecord_view (·.ra) _ _ _ s (by simp) (by simp),
    decideRecord_view (·.mu) _ _ _ s (by simp) (by simp),
    decideRecord_view (·.clock) _ _ _ s (by simp) (by simp),
    decideRecord_view (·.wires) _ _ _ s (by simp) (by simp),
    decideRecord_view (·.pending) _ _ _ s (by simp) (by simp)⟩

theorem execClear_frame {payload : List Byte} {s t : State} (h : execClear payload s = .next t) :
    t.part = s.part ∧ t.li = s.li ∧ t.pt = s.pt ∧ t.wu = s.wu ∧ t.tu = s.tu ∧ t.cc = s.cc ∧ t.cl = s.cl ∧
    t.ra = s.ra ∧ t.clock = s.clock ∧ t.wires = s.wires ∧ t.pending = s.pending := by
  cases h
  exact ⟨decideRecord_view (·.part) _ _ _ s (by simp) (by simp),
    decideRecord_view (·.li) _ _ _ s (by simp) (by simp),
    decideRecord_view (·.pt) _ _ _ s (by simp) (by simp),
    decideRecord_view (·.wu) _ _ _ s (by simp) (by simp),
    decideRecord_view (·.tu) _ _ _ s (by simp) (by simp),
    decideRecord_view (·.cc) _ _ _ s (by simp) (by simp),
    decideRecord_view (·.cl) _ _ _ s (by simp) (by simp),
    decideRecord_view (·.ra) _ _ _ s (by simp) (by simp),
    decideRecord_view (·.clock) _ _ _ s (by simp) (by simp),
    decideRecord_view (·.wires) _ _ _ s (by simp) (by simp),
    decideRecord_view (·.pending) _ _ _ s (by simp) (by simp)⟩

theorem execClearFresh_frame {payload : List Byte} {s t : State} (h : execClearFresh payload s = .next t) :
    t.li = s.li ∧ t.pt = s.pt ∧ t.wu = s.wu ∧ t.tu = s.tu ∧ t.cc = s.cc ∧ t.cl = s.cl ∧ t.ja = s.ja ∧
    t.ra = s.ra ∧ t.mu = s.mu ∧ t.clock = s.clock ∧ t.wires = s.wires ∧ t.pending = s.pending := by
  cases h
  exact ⟨decideRecord_view (·.li) _ _ _ s (by simp) (by simp),
    decideRecord_view (·.pt) _ _ _ s (by simp) (by simp),
    decideRecord_view (·.wu) _ _ _ s (by simp) (by simp),
    decideRecord_view (·.tu) _ _ _ s (by simp) (by simp),
    decideRecord_view (·.cc) _ _ _ s (by simp) (by simp),
    decideRecord_view (·.cl) _ _ _ s (by simp) (by simp),
    decideRecord_view (·.ja) _ _ _ s (by simp) (by simp),
    decideRecord_view (·.ra) _ _ _ s (by simp) (by simp),
    decideRecord_view (·.mu) _ _ _ s (by simp) (by simp),
    decideRecord_view (·.clock) _ _ _ s (by simp) (by simp),
    decideRecord_view (·.wires) _ _ _ s (by simp) (by simp),
    decideRecord_view (·.pending) _ _ _ s (by simp) (by simp)⟩

theorem execRestart_frame {payload : List Byte} {s t : State} (h : execRestart payload s = .next t) :
    t.clock = s.clock ∧ t.wires = s.wires ∧ t.pending = s.pending := by
  cases h
  exact ⟨decideRecord_view (·.clock) _ _ _ s (by simp) (by simp),
    decideRecord_view (·.wires) _ _ _ s (by simp) (by simp),
    decideRecord_view (·.pending) _ _ _ s (by simp) (by simp)⟩

theorem execVehicle_frame {payload : List Byte} {s t : State} (h : execVehicle payload s = .next t) :
    t.part = s.part ∧ t.li = s.li ∧ t.pt = s.pt ∧ t.tu = s.tu ∧ t.cc = s.cc ∧ t.cl = s.cl ∧ t.ja = s.ja ∧
    t.ra = s.ra ∧ t.mu = s.mu ∧ t.clock = s.clock ∧ t.wires = s.wires ∧ t.pending = s.pending := by
  cases h
  exact ⟨decideRecord_view (·.part) _ _ _ s (by simp) (by simp),
    decideRecord_view (·.li) _ _ _ s (by simp) (by simp),
    decideRecord_view (·.pt) _ _ _ s (by simp) (by simp),
    decideRecord_view (·.tu) _ _ _ s (by simp) (by simp),
    decideRecord_view (·.cc) _ _ _ s (by simp) (by simp),
    decideRecord_view (·.cl) _ _ _ s (by simp) (by simp),
    decideRecord_view (·.ja) _ _ _ s (by simp) (by simp),
    decideRecord_view (·.ra) _ _ _ s (by simp) (by simp),
    decideRecord_view (·.mu) _ _ _ s (by simp) (by simp),
    decideRecord_view (·.clock) _ _ _ s (by simp) (by simp),
    decideRecord_view (·.wires) _ _ _ s (by simp) (by simp),
    decideRecord_view (·.pending) _ _ _ s (by simp) (by simp)⟩

theorem execWeight_frame {payload : List Byte} {s t : State} (h : execWeight payload s = .next t) :
    t.part = s.part ∧ t.pt = s.pt ∧ t.tu = s.tu ∧ t.cc = s.cc ∧ t.cl = s.cl ∧ t.ja = s.ja ∧ t.ra = s.ra ∧
    t.clock = s.clock ∧ t.wires = s.wires ∧ t.pending = s.pending := by
  cases h
  exact ⟨decideRecord_view (·.part) _ _ _ s (by simp) (by simp),
    decideRecord_view (·.pt) _ _ _ s (by simp) (by simp),
    decideRecord_view (·.tu) _ _ _ s (by simp) (by simp),
    decideRecord_view (·.cc) _ _ _ s (by simp) (by simp),
    decideRecord_view (·.cl) _ _ _ s (by simp) (by simp),
    decideRecord_view (·.ja) _ _ _ s (by simp) (by simp),
    decideRecord_view (·.ra) _ _ _ s (by simp) (by simp),
    decideRecord_view (·.clock) _ _ _ s (by simp) (by simp),
    decideRecord_view (·.wires) _ _ _ s (by simp) (by simp),
    decideRecord_view (·.pending) _ _ _ s (by simp) (by simp)⟩

theorem execWithdraw_frame {payload : List Byte} {s t : State} (h : execWithdraw payload s = .next t) :
    t.part = s.part ∧ t.pt = s.pt ∧ t.wu = s.wu ∧ t.tu = s.tu ∧ t.cc = s.cc ∧ t.cl = s.cl ∧ t.ja = s.ja ∧
    t.ra = s.ra ∧ t.clock = s.clock ∧ t.wires = s.wires ∧ t.pending = s.pending := by
  cases h
  exact ⟨decideRecord_view (·.part) _ _ _ s (by simp) (by simp),
    decideRecord_view (·.pt) _ _ _ s (by simp) (by simp),
    decideRecord_view (·.wu) _ _ _ s (by simp) (by simp),
    decideRecord_view (·.tu) _ _ _ s (by simp) (by simp),
    decideRecord_view (·.cc) _ _ _ s (by simp) (by simp),
    decideRecord_view (·.cl) _ _ _ s (by simp) (by simp),
    decideRecord_view (·.ja) _ _ _ s (by simp) (by simp),
    decideRecord_view (·.ra) _ _ _ s (by simp) (by simp),
    decideRecord_view (·.clock) _ _ _ s (by simp) (by simp),
    decideRecord_view (·.wires) _ _ _ s (by simp) (by simp),
    decideRecord_view (·.pending) _ _ _ s (by simp) (by simp)⟩

theorem execAssign_frame {payload : List Byte} {s t : State} (h : execAssign payload s = .next t) :
    t.part = s.part ∧ t.li = s.li ∧ t.pt = s.pt ∧ t.wu = s.wu ∧ t.cc = s.cc ∧ t.cl = s.cl ∧ t.ja = s.ja ∧
    t.ra = s.ra ∧ t.mu = s.mu ∧ t.clock = s.clock ∧ t.wires = s.wires ∧ t.pending = s.pending := by
  cases h
  exact ⟨decideRecord_view (·.part) _ _ _ s (by simp) (by simp),
    decideRecord_view (·.li) _ _ _ s (by simp) (by simp),
    decideRecord_view (·.pt) _ _ _ s (by simp) (by simp),
    decideRecord_view (·.wu) _ _ _ s (by simp) (by simp),
    decideRecord_view (·.cc) _ _ _ s (by simp) (by simp),
    decideRecord_view (·.cl) _ _ _ s (by simp) (by simp),
    decideRecord_view (·.ja) _ _ _ s (by simp) (by simp),
    decideRecord_view (·.ra) _ _ _ s (by simp) (by simp),
    decideRecord_view (·.mu) _ _ _ s (by simp) (by simp),
    decideRecord_view (·.clock) _ _ _ s (by simp) (by simp),
    decideRecord_view (·.wires) _ _ _ s (by simp) (by simp),
    decideRecord_view (·.pending) _ _ _ s (by simp) (by simp)⟩

theorem execDisarm_frame {payload : List Byte} {s t : State} (h : execDisarm payload s = .next t) :
    t.part = s.part ∧ t.li = s.li ∧ t.pt = s.pt ∧ t.wu = s.wu ∧ t.cc = s.cc ∧ t.cl = s.cl ∧ t.ja = s.ja ∧
    t.ra = s.ra ∧ t.mu = s.mu ∧ t.clock = s.clock ∧ t.wires = s.wires ∧ t.pending = s.pending := by
  cases h
  exact ⟨decideRecord_view (·.part) _ _ _ s (by simp) (by simp),
    decideRecord_view (·.li) _ _ _ s (by simp) (by simp),
    decideRecord_view (·.pt) _ _ _ s (by simp) (by simp),
    decideRecord_view (·.wu) _ _ _ s (by simp) (by simp),
    decideRecord_view (·.cc) _ _ _ s (by simp) (by simp),
    decideRecord_view (·.cl) _ _ _ s (by simp) (by simp),
    decideRecord_view (·.ja) _ _ _ s (by simp) (by simp),
    decideRecord_view (·.ra) _ _ _ s (by simp) (by simp),
    decideRecord_view (·.mu) _ _ _ s (by simp) (by simp),
    decideRecord_view (·.clock) _ _ _ s (by simp) (by simp),
    decideRecord_view (·.wires) _ _ _ s (by simp) (by simp),
    decideRecord_view (·.pending) _ _ _ s (by simp) (by simp)⟩

theorem execAnalysis_frame {payload : List Byte} {s t : State} (h : execAnalysis payload s = .next t) :
    t.part = s.part ∧ t.li = s.li ∧ t.pt = s.pt ∧ t.wu = s.wu ∧ t.tu = s.tu ∧ t.cc = s.cc ∧ t.cl = s.cl ∧
    t.ja = s.ja ∧ t.clock = s.clock ∧ t.wires = s.wires ∧ t.pending = s.pending := by
  cases h
  exact ⟨decideRecord_view (·.part) _ _ _ s (by simp) (by simp),
    decideRecord_view (·.li) _ _ _ s (by simp) (by simp),
    decideRecord_view (·.pt) _ _ _ s (by simp) (by simp),
    decideRecord_view (·.wu) _ _ _ s (by simp) (by simp),
    decideRecord_view (·.tu) _ _ _ s (by simp) (by simp),
    decideRecord_view (·.cc) _ _ _ s (by simp) (by simp),
    decideRecord_view (·.cl) _ _ _ s (by simp) (by simp),
    decideRecord_view (·.ja) _ _ _ s (by simp) (by simp),
    decideRecord_view (·.clock) _ _ _ s (by simp) (by simp),
    decideRecord_view (·.wires) _ _ _ s (by simp) (by simp),
    decideRecord_view (·.pending) _ _ _ s (by simp) (by simp)⟩

theorem execDayEnd_frame {payload : List Byte} {s t : State} (h : execDayEnd payload s = .next t) :
    t.pt = s.pt ∧ t.tu = s.tu ∧ t.cc = s.cc ∧ t.cl = s.cl ∧ t.ja = s.ja ∧ t.clock = s.clock ∧
    t.wires = s.wires ∧ t.pending = s.pending := by
  cases h
  exact ⟨decideRecord_view (·.pt) _ _ _ s (by simp) (by simp),
    decideRecord_view (·.tu) _ _ _ s (by simp) (by simp),
    decideRecord_view (·.cc) _ _ _ s (by simp) (by simp),
    decideRecord_view (·.cl) _ _ _ s (by simp) (by simp),
    decideRecord_view (·.ja) _ _ _ s (by simp) (by simp),
    decideRecord_view (·.clock) _ _ _ s (by simp) (by simp),
    decideRecord_view (·.wires) _ _ _ s (by simp) (by simp),
    decideRecord_view (·.pending) _ _ _ s (by simp) (by simp)⟩

theorem execRead_frame {payload : List Byte} {s t : State} (h : execRead payload s = .next t) :
    t.part = s.part ∧ t.li = s.li ∧ t.pt = s.pt ∧ t.wu = s.wu ∧ t.tu = s.tu ∧ t.cc = s.cc ∧ t.cl = s.cl ∧
    t.ja = s.ja ∧ t.mu = s.mu ∧ t.clock = s.clock ∧ t.wires = s.wires ∧ t.pending = s.pending := by
  cases h
  exact ⟨decideRecord_view (·.part) _ _ _ s (by simp) (by simp),
    decideRecord_view (·.li) _ _ _ s (by simp) (by simp),
    decideRecord_view (·.pt) _ _ _ s (by simp) (by simp),
    decideRecord_view (·.wu) _ _ _ s (by simp) (by simp),
    decideRecord_view (·.tu) _ _ _ s (by simp) (by simp),
    decideRecord_view (·.cc) _ _ _ s (by simp) (by simp),
    decideRecord_view (·.cl) _ _ _ s (by simp) (by simp),
    decideRecord_view (·.ja) _ _ _ s (by simp) (by simp),
    decideRecord_view (·.mu) _ _ _ s (by simp) (by simp),
    decideRecord_view (·.clock) _ _ _ s (by simp) (by simp),
    decideRecord_view (·.wires) _ _ _ s (by simp) (by simp),
    decideRecord_view (·.pending) _ _ _ s (by simp) (by simp)⟩

theorem execRelease_frame {payload : List Byte} {s t : State} (h : execRelease payload s = .next t) :
    t.part = s.part ∧ t.li = s.li ∧ t.pt = s.pt ∧ t.wu = s.wu ∧ t.tu = s.tu ∧ t.cc = s.cc ∧ t.cl = s.cl ∧
    t.ja = s.ja ∧ t.clock = s.clock ∧ t.wires = s.wires ∧ t.pending = s.pending := by
  cases h
  exact ⟨decideRecord_view (·.part) _ _ _ s (by simp) (by simp),
    decideRecord_view (·.li) _ _ _ s (by simp) (by simp),
    decideRecord_view (·.pt) _ _ _ s (by simp) (by simp),
    decideRecord_view (·.wu) _ _ _ s (by simp) (by simp),
    decideRecord_view (·.tu) _ _ _ s (by simp) (by simp),
    decideRecord_view (·.cc) _ _ _ s (by simp) (by simp),
    decideRecord_view (·.cl) _ _ _ s (by simp) (by simp),
    decideRecord_view (·.ja) _ _ _ s (by simp) (by simp),
    decideRecord_view (·.clock) _ _ _ s (by simp) (by simp),
    decideRecord_view (·.wires) _ _ _ s (by simp) (by simp),
    decideRecord_view (·.pending) _ _ _ s (by simp) (by simp)⟩

theorem execOutboundItemSent_frame {s t : State} (h : execOutboundItemSent s = .next t) :
    t.part = s.part ∧ t.li = s.li ∧ t.pt = s.pt ∧ t.wu = s.wu ∧ t.tu = s.tu ∧ t.cc = s.cc ∧ t.cl = s.cl ∧
    t.ja = s.ja ∧ t.ra = s.ra ∧ t.mu = s.mu ∧ t.clock = s.clock ∧ t.wires = s.wires ∧ t.pending = s.pending := by
  unfold execOutboundItemSent at h
  try dsimp only at h
  (repeat' split at h) <;> cases h <;> simp

theorem execOpenEntryExpiry_frame {key : Key} {s t : State} (h : execOpenEntryExpiry key s = .next t) :
    t.part = s.part ∧ t.pt = s.pt ∧ t.tu = s.tu ∧ t.cc = s.cc ∧ t.cl = s.cl ∧ t.ja = s.ja ∧ t.ra = s.ra ∧
    t.clock = s.clock ∧ t.wires = s.wires ∧ t.pending = s.pending := by
  unfold execOpenEntryExpiry at h
  try dsimp only at h
  (repeat' split at h) <;> cases h <;> simp

theorem execAwaitingEntryExpiry_frame {key : Key} {s t : State} (h : execAwaitingEntryExpiry key s = .next t) :
    t.part = s.part ∧ t.li = s.li ∧ t.pt = s.pt ∧ t.wu = s.wu ∧ t.cc = s.cc ∧ t.cl = s.cl ∧ t.ja = s.ja ∧
    t.ra = s.ra ∧ t.mu = s.mu ∧ t.fp = s.fp ∧ t.clock = s.clock ∧ t.wires = s.wires ∧ t.pending = s.pending := by
  unfold execAwaitingEntryExpiry at h
  try dsimp only at h
  (repeat' split at h) <;> cases h <;> simp

theorem execTippingActive_frame {s t : State} (h : execTippingActive s = .next t) :
    t.part = s.part ∧ t.li = s.li ∧ t.pt = s.pt ∧ t.wu = s.wu ∧ t.cc = s.cc ∧ t.cl = s.cl ∧ t.ja = s.ja ∧
    t.ra = s.ra ∧ t.mu = s.mu ∧ t.fp = s.fp ∧ t.clock = s.clock ∧ t.wires = s.wires ∧ t.pending = s.pending := by
  unfold execTippingActive at h
  try dsimp only at h
  (repeat' split at h) <;> cases h <;> simp

theorem execMinTipTimeExpiry_frame {s t : State} (h : execMinTipTimeExpiry s = .next t) :
    t.part = s.part ∧ t.li = s.li ∧ t.pt = s.pt ∧ t.wu = s.wu ∧ t.cc = s.cc ∧ t.cl = s.cl ∧ t.ja = s.ja ∧
    t.ra = s.ra ∧ t.mu = s.mu ∧ t.fp = s.fp ∧ t.clock = s.clock ∧ t.wires = s.wires ∧ t.pending = s.pending := by
  unfold execMinTipTimeExpiry at h
  try dsimp only at h
  (repeat' split at h) <;> cases h <;> simp

theorem execTippingRelease_frame {s t : State} (h : execTippingRelease s = .next t) :
    t.part = s.part ∧ t.pt = s.pt ∧ t.wu = s.wu ∧ t.cc = s.cc ∧ t.cl = s.cl ∧ t.ja = s.ja ∧ t.ra = s.ra ∧
    t.clock = s.clock ∧ t.wires = s.wires ∧ t.pending = s.pending := by
  unfold execTippingRelease at h
  try dsimp only at h
  (repeat' split at h) <;> cases h <;> simp

theorem execStepPulse_frame {forward : Bool} {s t : State} (h : execStepPulse forward s = .next t) :
    t.part = s.part ∧ t.pt = s.pt ∧ t.wu = s.wu ∧ t.ra = s.ra ∧ t.clock = s.clock ∧ t.wires = s.wires ∧
    t.pending = s.pending := by
  unfold execStepPulse at h
  try dsimp only at h
  (repeat' split at h) <;> cases h <;> simp

theorem execSpeedSaturation_frame {s t : State} (h : execSpeedSaturation s = .next t) :
    t.part = s.part ∧ t.li = s.li ∧ t.pt = s.pt ∧ t.wu = s.wu ∧ t.tu = s.tu ∧ t.cl = s.cl ∧ t.ra = s.ra ∧
    t.clock = s.clock ∧ t.wires = s.wires ∧ t.pending = s.pending := by
  unfold execSpeedSaturation at h
  try dsimp only at h
  (repeat' split at h) <;> cases h <;> simp

theorem execStallQuietInterval_frame {s t : State} (h : execStallQuietInterval s = .next t) :
    t.part = s.part ∧ t.li = s.li ∧ t.pt = s.pt ∧ t.wu = s.wu ∧ t.tu = s.tu ∧ t.cl = s.cl ∧ t.ra = s.ra ∧
    t.clock = s.clock ∧ t.wires = s.wires ∧ t.pending = s.pending := by
  unfold execStallQuietInterval at h
  try dsimp only at h
  (repeat' split at h) <;> cases h <;> simp

theorem execRunContactActive_frame {s t : State} (h : execRunContactActive s = .next t) :
    t.part = s.part ∧ t.li = s.li ∧ t.pt = s.pt ∧ t.wu = s.wu ∧ t.tu = s.tu ∧ t.cl = s.cl ∧ t.ja = s.ja ∧
    t.ra = s.ra ∧ t.fp = s.fp ∧ t.clock = s.clock ∧ t.wires = s.wires ∧ t.pending = s.pending := by
  unfold execRunContactActive at h
  try dsimp only at h
  (repeat' split at h) <;> cases h <;> simp

theorem execRunContactRelease_frame {s t : State} (h : execRunContactRelease s = .next t) :
    t.part = s.part ∧ t.li = s.li ∧ t.pt = s.pt ∧ t.wu = s.wu ∧ t.tu = s.tu ∧ t.cl = s.cl ∧ t.ra = s.ra ∧
    t.clock = s.clock ∧ t.wires = s.wires ∧ t.pending = s.pending := by
  unfold execRunContactRelease at h
  try dsimp only at h
  (repeat' split at h) <;> cases h <;> simp

theorem execStartAllowanceExpiry_frame {s t : State} (h : execStartAllowanceExpiry s = .next t) :
    t.part = s.part ∧ t.li = s.li ∧ t.pt = s.pt ∧ t.wu = s.wu ∧ t.tu = s.tu ∧ t.cl = s.cl ∧ t.ra = s.ra ∧
    t.clock = s.clock ∧ t.wires = s.wires ∧ t.pending = s.pending := by
  unfold execStartAllowanceExpiry at h
  try dsimp only at h
  (repeat' split at h) <;> cases h <;> simp

theorem execFlowPulse_frame {s t : State} (h : execFlowPulse s = .next t) :
    t.part = s.part ∧ t.li = s.li ∧ t.pt = s.pt ∧ t.wu = s.wu ∧ t.tu = s.tu ∧ t.cc = s.cc ∧ t.cl = s.cl ∧
    t.ra = s.ra ∧ t.clock = s.clock ∧ t.wires = s.wires ∧ t.pending = s.pending := by
  unfold execFlowPulse at h
  try dsimp only at h
  (repeat' split at h) <;> cases h <;> simp

theorem execPeriodTimerExpiry_frame {s t : State} (h : execPeriodTimerExpiry s = .next t) :
    t.part = s.part ∧ t.pt = s.pt ∧ t.wu = s.wu ∧ t.tu = s.tu ∧ t.cc = s.cc ∧ t.ra = s.ra ∧ t.clock = s.clock ∧
    t.wires = s.wires ∧ t.pending = s.pending := by
  unfold execPeriodTimerExpiry at h
  try dsimp only at h
  (repeat' split at h) <;> cases h <;> simp

theorem execPauseLimitExpiry_frame {s t : State} (h : execPauseLimitExpiry s = .next t) :
    t.part = s.part ∧ t.pt = s.pt ∧ t.wu = s.wu ∧ t.tu = s.tu ∧ t.cc = s.cc ∧ t.ra = s.ra ∧ t.clock = s.clock ∧
    t.wires = s.wires ∧ t.pending = s.pending := by
  unfold execPauseLimitExpiry at h
  try dsimp only at h
  (repeat' split at h) <;> cases h <;> simp

theorem execCompletionTimerExpiry_frame {key : Key} {s t : State} (h : execCompletionTimerExpiry key s = .next t) :
    t.part = s.part ∧ t.li = s.li ∧ t.pt = s.pt ∧ t.wu = s.wu ∧ t.tu = s.tu ∧ t.cc = s.cc ∧ t.cl = s.cl ∧
    t.ja = s.ja ∧ t.clock = s.clock ∧ t.wires = s.wires ∧ t.pending = s.pending := by
  unfold execCompletionTimerExpiry at h
  try dsimp only at h
  (repeat' split at h) <;> cases h <;> simp

theorem execNotCrushedAgeExpiry_frame {key : Key} {s t : State} (h : execNotCrushedAgeExpiry key s = .next t) :
    t.part = s.part ∧ t.li = s.li ∧ t.pt = s.pt ∧ t.wu = s.wu ∧ t.tu = s.tu ∧ t.cc = s.cc ∧ t.cl = s.cl ∧
    t.ja = s.ja ∧ t.clock = s.clock ∧ t.wires = s.wires ∧ t.pending = s.pending := by
  unfold execNotCrushedAgeExpiry at h
  try dsimp only at h
  (repeat' split at h) <;> cases h <;> simp

theorem execSummaryWaitExpiry_frame {s t : State} (h : execSummaryWaitExpiry s = .next t) :
    t.part = s.part ∧ t.li = s.li ∧ t.pt = s.pt ∧ t.wu = s.wu ∧ t.tu = s.tu ∧ t.cc = s.cc ∧ t.cl = s.cl ∧
    t.ja = s.ja ∧ t.clock = s.clock ∧ t.wires = s.wires ∧ t.pending = s.pending := by
  unfold execSummaryWaitExpiry at h
  try dsimp only at h
  (repeat' split at h) <;> cases h <;> simp

theorem execLineActive_frame {s t : State} (h : execLineActive s = .next t) :
    t.part = s.part ∧ t.pt = s.pt ∧ t.wu = s.wu ∧ t.tu = s.tu ∧ t.cc = s.cc ∧ t.cl = s.cl ∧ t.ja = s.ja ∧
    t.ra = s.ra ∧ t.mu = s.mu ∧ t.fp = s.fp ∧ t.clock = s.clock ∧ t.wires = s.wires ∧ t.pending = s.pending := by
  unfold execLineActive at h
  try dsimp only at h
  (repeat' split at h) <;> cases h <;> simp

theorem execResetnFall_frame {s t : State} (h : execResetnFall s = .next t) :
    t.wires = s.wires ∧ t.pending = s.pending := by
  cases h
  simp

end Sys2Proof.Machine
end

