-- ==== Sys2Proof/Laws/Reception.lean ====
section
/-! SUPPORT. What a reception and a record come to, said once: a frame that passes the checks of R12, R13, R19 and R20 is
the notice check on the state that has heard it, and a record that no step of R184 refuses is its owning rule. -/

namespace Sys2Proof.Machine

/-- Every reception is `receive` of its header, kind and payload. -/
theorem exec_asFrame {c : Instr} {h : FrameHeader} {k : Nat} {p : List Byte} (s : State)
    (hc : asFrame c = some (h, k, p)) : exec c s = .next (receive h k p s) := by
  cases c <;> simp_all [asFrame] <;> (obtain ⟨rfl, rfl, rfl⟩ := hc; rfl)

/-- The role of a role's code (R13). -/
@[simp] theorem roleOfCode_roleCode (r : Role) : roleOfCode (roleCode r) = some r := by cases r <;> rfl

/-- A code outside 1 to 5 has no role (R13). -/
theorem roleOfCode_none {n : Nat} (h : n < 1 ∨ 5 < n) : roleOfCode n = none := by
  unfold roleOfCode
  split <;> first | rfl | simp_all

/-- The receiver takes frames exactly when the station listens (R12). -/
theorem receiverTakes_iff (s : State) : receiverTakes s = true ↔ Listens s := by
  simp [receiverTakes, Listens, and_assoc]

/-- The role units run exactly when the station works in that role. -/
theorem runsAs_iff (r : Role) (s : State) : runsAs r s = true ↔ Works r s := by simp [runsAs, Works]

/-- A station that works in one role runs in no other. -/
theorem runsAs_other {r r' : Role} {s : State} (h : Works r s) (hn : r ≠ r') : runsAs r' s = false := by
  simp [runsAs, h.1, h.2, hn]

/-- Hearing a frame touches the line interface, the peer table, the monitors and the outbound queue only (R12, R15, R18). -/
@[simp] theorem heard_frame (sender : Role) (h : FrameHeader) (k : Nat) (p : List Byte) (s : State) :
    (heard sender h k p s).part = s.part ∧ (heard sender h k p s).wu = s.wu ∧ (heard sender h k p s).tu = s.tu ∧
    (heard sender h k p s).cc = s.cc ∧ (heard sender h k p s).cl = s.cl ∧ (heard sender h k p s).ja = s.ja ∧
    (heard sender h k p s).ra = s.ra ∧ (heard sender h k p s).clock = s.clock ∧
    (heard sender h k p s).wires = s.wires ∧ (heard sender h k p s).pending = s.pending := by
  unfold heard tableUpdated reportPeerSilent frameTaken setPeer
  (repeat' split) <;> simp [conditionStarts_ja, conditionEnds_ja]

/-- A frame that passes the checks is the notice check on the state that has heard it (R13, R19, R20, R25). -/
theorem exec_passes {c : Instr} {h : FrameHeader} {k : Nat} {p : List Byte} {s : State} {sender : Role}
    (hc : asFrame c = some (h, k, p)) (hp : Passes sender h s) :
    exec c s = .next (checkNotice h sender k p (heard sender h k p s)) := by
  obtain ⟨hl, hr, hs, hd⟩ := hp
  rw [exec_asFrame s hc, receive, if_pos ((receiverTakes_iff s).2 hl), hr, roleOfCode_roleCode]
  have ha : passFrame h sender k p (frameTaken s) = acceptFrame h sender k p (frameTaken s) := by
    rcases hs with h1 | ⟨h1, h2⟩ <;> simp [passFrame, *]
  have hdd : duplicateRole h sender (tableUpdated h sender k p (frameTaken s)) = false := by
    simp [duplicateRole]
    intro a b
    exact le_of_not_gt fun c => hd ⟨a, b, c⟩
  simp [ha, acceptFrame, hdd, heard]

/-- A notice past every check is acted on in the state that has heard it (R24, R25). -/
theorem exec_notice {c : Instr} {h : FrameHeader} {k : Nat} {p : List Byte} {s : State} {sender : Role} {r : Received}
    (hc : asFrame c = some (h, k, p)) (hp : Passes sender h s) (hk : knownKind k = true)
    (hr : readNotice k h.station sender p = some r) :
    exec c s = .next (actOn sender r (heard sender h k p s)) := by
  rw [exec_passes hc hp]
  simp [checkNotice, hk, hr]

/-- A record that no step of R184 refuses is its owning rule, the receiver hunting again (R182, R184). -/
theorem decideRecord_own {k : RecordKind} {p : List Byte} {own : State → State} {s : State} (ht : PortTakes s)
    (hr : refusal k p s = none) : decideRecord k p own s = own (hunting s) := by
  have : fieldPortTakes s = true := by simp [fieldPortTakes, ht.1, Limits.outbound, ht.2]
  simp [decideRecord, this, hr]

/-- A record that a step of R184 refuses gets that reply and nothing else. -/
theorem decideRecord_refused {k : RecordKind} {p : List Byte} {own : State → State} {s : State} {code : ReplyCode}
    (ht : PortTakes s) (hr : refusal k p s = some code) :
    decideRecord k p own s = { s with fp := repliedTo k code s } := by
  have : fieldPortTakes s = true := by simp [fieldPortTakes, ht.1, Limits.outbound, ht.2]
  simp [decideRecord, this, hr, replyTo, place, hunting, repliedTo, State.setFp, RecordKind.byte]

/-- A record in the hold of R187 is lost. -/
theorem decideRecord_lost {k : RecordKind} {p : List Byte} {own : State → State} {s : State} (ht : ¬ PortTakes s) :
    decideRecord k p own s = s := by
  have : fieldPortTakes s = false := by
    simp [fieldPortTakes, Limits.outbound]
    intro h
    by_contra hc
    exact ht ⟨h, by omega⟩
  simp [decideRecord, this]

/-- The events of a cause depend on the outbound queue alone (R186). -/
theorem foldEmit_fp (evs : List OutItem) {s t : State} (h : s.fp = t.fp) :
    (evs.foldl (fun t ev => emit ev t) s).fp = (evs.foldl (fun t ev => emit ev t) t).fp := by
  induction evs generalizing s t with
  | nil => exact h
  | cons e es ih => exact ih (emit_fp e h)

end Sys2Proof.Machine
end

