-- ==== Sys2Proof/Laws/Wires.lean ====
section
/-! SUPPORT. What 2 µs and the receivers can do, said once: the blocks that a tick and the wires leave alone, and the
receivers over inputs one after another. -/

namespace Sys2Proof.Machine

/-! ### Receivers over several inputs -/

@[simp] theorem takeAll_nil {ρ α : Type} (take : ρ → α → ρ × List Instr) (rx : ρ) : takeAll take rx [] = (rx, []) := rfl

@[simp] theorem takeAll_cons {ρ α : Type} (take : ρ → α → ρ × List Instr) (rx : ρ) (a : α) (l : List α) :
    takeAll take rx (a :: l) = ((takeAll take (take rx a).1 l).1, (take rx a).2 ++ (takeAll take (take rx a).1 l).2) := rfl

/-- Inputs in two parts are taken one part after the other. -/
theorem takeAll_append {ρ α : Type} (take : ρ → α → ρ × List Instr) (rx : ρ) (l m : List α) :
    takeAll take rx (l ++ m) =
      ((takeAll take (takeAll take rx l).1 m).1, (takeAll take rx l).2 ++ (takeAll take (takeAll take rx l).1 m).2) := by
  induction l generalizing rx with
  | nil => simp
  | cons a l ih => simp [ih]

/-- In WAIT-QUIET nothing is read: "Bits that follow the CRC before the line goes quiet are not read" (R12). -/
@[simp] theorem take_waitQuiet (e : LineEvent) : LineRx.waitQuiet.take e = (.waitQuiet, []) := by cases e <;> rfl

@[simp] theorem take_nothing (rx : LineRx) : rx.take .nothing = (rx, []) := rfl
@[simp] theorem take_bit (rx : LineRx) (b : Bool) : rx.take (.bit b) = rx.takeBit b := rfl
@[simp] theorem take_missing (rx : LineRx) : rx.take .missing = rx.violation := rfl

/-- The levels of a bit on TLR, 2 µs apart: two half-bits of 8 µs (R1). -/
abbrev bitLevels (b : Bool) : List Bool := [b, b, b, b, !b, !b, !b, !b]

/-- A bit in the middle of a frame: the bit clock stands 6 µs past the last mid-bit transition, and does so again after it. -/
theorem ear_bit (rx : LineRx) (level b : Bool) :
    takeAll LineEar.take ⟨rx, some 3, level⟩ (bitLevels b) = (⟨(rx.takeBit b).1, some 3, !b⟩, (rx.takeBit b).2) := by
  cases b <;> cases level <;> simp [LineEar.take, bitClock, Limits.midBitEarly, Limits.midBitLate]

/-- The first bit of a frame, 1, on a line that reads high: its mid-bit transition starts the bit clock. -/
theorem ear_first (rx : LineRx) :
    takeAll LineEar.take ⟨rx, none, true⟩ (bitLevels true) = (⟨(rx.takeBit true).1, some 3, false⟩, (rx.takeBit true).2) := by
  simp [LineEar.take, bitClock, Limits.midBitEarly, Limits.midBitLate]

/-- The bits after the first: the ear hears what the receiver takes, bit by bit. -/
theorem ear_bits (rx : LineRx) (level : Bool) (bits : List Bool) :
    ∃ last, takeAll LineEar.take ⟨rx, some 3, level⟩ (bits.flatMap bitLevels) =
      (⟨(takeAll LineRx.takeBit rx bits).1, some 3, last⟩, (takeAll LineRx.takeBit rx bits).2) := by
  induction bits generalizing rx level with
  | nil => exact ⟨level, rfl⟩
  | cons b l ih =>
    obtain ⟨last, h⟩ := ih (rx.takeBit b).1 (!b)
    refine ⟨last, ?_⟩
    rw [List.flatMap_cons, takeAll_append, ear_bit, h]
    rfl

/-- The receiver of the field port reads a byte as TXD sends one (R181). -/
@[simp] theorem readSerial_serialBits (b : Byte) : readSerial (serialBits b) = some (b, true) := by
  revert b; decide +kernel

/-! ### What a tick leaves alone -/

/-- A role unit's millisecond leaves the line, the peers, the field port and the monitors unchanged. -/
@[simp] theorem countRoleMs_frame (s : State) :
    (countRoleMs s).part = s.part ∧ (countRoleMs s).li = s.li ∧ (countRoleMs s).pt = s.pt ∧ (countRoleMs s).cl = s.cl ∧
    (countRoleMs s).mu = s.mu ∧ (countRoleMs s).fp = s.fp ∧ (countRoleMs s).clock = s.clock ∧
    (countRoleMs s).wires = s.wires ∧ (countRoleMs s).pending = s.pending := by
  unfold countRoleMs
  (repeat' split) <;> simp

/-- A millisecond leaves the crush line, the monitors, the field port, the wires and the queue unchanged. -/
@[simp] theorem countMs_frame (s : State) :
    (countMs s).cl = s.cl ∧ (countMs s).mu = s.mu ∧ (countMs s).fp = s.fp ∧ (countMs s).clock = s.clock ∧
    (countMs s).wires = s.wires ∧ (countMs s).pending = s.pending := by
  unfold countMs
  split <;> simp

/-- A reference cycle changes the carrier counter alone. -/
@[simp] theorem countCycle_frame (s : State) :
    (countCycle s).part = s.part ∧ (countCycle s).li = s.li ∧ (countCycle s).pt = s.pt ∧ (countCycle s).wu = s.wu ∧
    (countCycle s).tu = s.tu ∧ (countCycle s).cl = s.cl ∧ (countCycle s).ja = s.ja ∧ (countCycle s).ra = s.ra ∧
    (countCycle s).mu = s.mu ∧ (countCycle s).fp = s.fp ∧ (countCycle s).clock = s.clock ∧
    (countCycle s).wires = s.wires ∧ (countCycle s).pending = s.pending := by
  unfold countCycle
  (repeat' split) <;> simp

/-- The counts of the inputs change the tip unit's, the carrier counter's and the juice attributor's alone. -/
@[simp] theorem countInputs_frame (s : State) :
    (countInputs s).part = s.part ∧ (countInputs s).li = s.li ∧ (countInputs s).pt = s.pt ∧ (countInputs s).wu = s.wu ∧
    (countInputs s).cl = s.cl ∧ (countInputs s).ra = s.ra ∧ (countInputs s).mu = s.mu ∧ (countInputs s).fp = s.fp ∧
    (countInputs s).clock = s.clock ∧ (countInputs s).wires = s.wires ∧ (countInputs s).pending = s.pending := by
  unfold countInputs
  dsimp only
  (repeat' split) <;> simp

/-- The counts of a tick leave the crush line, the monitors, the wires and the queue unchanged. -/
@[simp] theorem count_frame (s : State) :
    (count s).cl = s.cl ∧ (count s).mu = s.mu ∧ (count s).wires = s.wires ∧ (count s).pending = s.pending := by
  unfold count
  dsimp only
  (repeat' split) <;> simp

/-- Whatever the line reads as, only the receiver, its bit clock, the wires and the queue change, and the queue grows at its
end (log 35). -/
theorem tickLine_spec (s : State) : ∃ (rx : LineRx) (bit : Option Nat) (wires : Wires) (commands : List Instr),
    tickLine s =
      { s with li := { s.li with rx := rx, bitTicks := bit }, wires := wires, pending := s.pending ++ commands } := by
  unfold tickLine
  dsimp only
  split
  · exact ⟨s.li.rx, s.li.bitTicks, _, [], by simp only [State.setWires, List.append_nil]; rfl⟩
  · exact ⟨_, _, _, _, by simp only [State.setLi, State.setWires, List.append_assoc]; rfl⟩

/-- Whatever the input pins do, only the count of FLOW, the wires and the queue change, and the queue grows at its end (log 35). -/
theorem tickInputs_spec (s : State) : ∃ (flow : Option Nat) (wires : Wires) (commands : List Instr),
    tickInputs s =
      { s with ja := { s.ja with flowTicks := flow }, wires := wires, pending := s.pending ++ commands } := by
  unfold tickInputs
  dsimp only
  split <;> exact ⟨_, _, _, rfl⟩

/-- Whatever comes on RXD, only the field port's receiver, the wires and the queue change, and the queue grows at its end
(log 35). -/
theorem tickSerial_spec (s : State) : ∃ (rx : FieldRx) (gap : Nat) (wires : Wires) (commands : List Instr),
    tickSerial s =
      { s with fp := { s.fp with rx := rx, gapTicks := gap }, wires := wires, pending := s.pending ++ commands } := by
  unfold tickSerial
  split
  · exact ⟨s.fp.rx, s.fp.gapTicks, s.wires, [], by simp⟩
  · split
    · unfold takeSerialByte
      split
      · split
        · exact ⟨_, _, _, _, rfl⟩
        · exact ⟨s.fp.rx, s.fp.gapTicks, _, [], by simp only [State.setWires, List.append_nil]; rfl⟩
      · exact ⟨s.fp.rx, s.fp.gapTicks, _, [], by simp only [State.setWires, List.append_nil]; rfl⟩
    · exact ⟨s.fp.rx, s.fp.gapTicks, _, [], by simp only [State.setWires, List.append_nil]; rfl⟩

/-- A tick is its counts, over a field port that may have taken a byte, and then the receiver, FLOW, the wires and the queue. -/
theorem advance_spec (s : State) :
    ∃ (frx : FieldRx) (gap : Nat) (rx : LineRx) (bit : Option Nat) (flow : Option Nat) (w0 wires : Wires)
      (c0 commands : List Instr),
      let u := count { s with fp := { s.fp with rx := frx, gapTicks := gap }, wires := w0, pending := s.pending ++ c0 }
      advance s = { u with
        li := { u.li with rx := rx, bitTicks := bit }, ja := { u.ja with flowTicks := flow }
        wires := wires, pending := s.pending ++ commands } := by
  obtain ⟨frx, gap, w0, c0, h0⟩ := tickSerial_spec s
  obtain ⟨flow, w1, c1, h1⟩ := tickInputs_spec (count (tickSerial s))
  obtain ⟨rx, bit, w2, c2, h2⟩ := tickLine_spec (tickInputs (count (tickSerial s)))
  refine ⟨frx, gap, rx, bit, flow, w0, w2, c0, c0 ++ c1 ++ c2, ?_⟩
  rw [advance, h2, h1, h0]
  simp

end Sys2Proof.Machine
end

