-- ==== Sys2Proof/Tests/Slice0.lean ====
section
/-! SUPPORT. The tests: what WellFormed refuses, the manual's worked figures, and for each statement with hypotheses a state
and operands that meet them, clause by clause at boundary values. -/

namespace Sys2Proof.Tests

open Sys2Proof Sys2Proof.Machine

/-! ### States and operands of the tests -/

/-- The settings of the worked sequence 4.11. -/
def weighExample : WeighSettings := ⟨60000, 20, 4, 40, 2000, .recover, 2⟩

/-- The settings of the worked figures 7.9. -/
def millExample : MillSettings := ⟨250, 60, 2, .estimate, .recover, 2, 640, 8, 12, true, 1000, 16, .latched, 1, 8⟩

/-- The settings of each role in the tests. -/
def settingsOf : Role → RoleSettings
  | .entry => .entry weighExample
  | .exit => .exit weighExample ⟨9000, 12⟩
  | .tip => .tip ⟨1800, 9000, 8000, 4⟩
  | .mill => .mill millExample
  | .lab => .lab ⟨212, 120, 12⟩

/-- Station 6 on crop day 212, in this role and state. -/
def at6 (r : Role) (st : StationState) : State :=
  { State.reset with
    part := { Part.reset with
      stationState := st, station := 6, role := some r, fresh := false, settings := some ⟨10, settingsOf r⟩, day := 212
      powerUpMs := 8 }
    li := { LineInterface.reset with quiet := .quiet, quietTicks := 160, rx := .hunt [], startedSent := true }
    mu := .started ⟨10, settingsOf r⟩
    ja := startedJuice ⟨10, settingsOf r⟩
    fp := { FieldPort.reset with rx := .hunt } }

/-- Station 6 in RUN. -/
def run6 (r : Role) : State := at6 r .run

/-- The header of a frame from this station and role. -/
def from' (n : StationNo) (r : Role) : FrameHeader := ⟨n, Fin.ofNat 8 (roleCode r), false, 9⟩

/-- Key (212, 6, 57) of the worked sequences. -/
def key57 : Key := ⟨212, 6, 57, false⟩

/-- The plate KRT 4471 of the worked sequence 4.11. -/
def plate4471 : Plate := [0x4B, 0x52, 0x54, 0x20, 0x34, 0x34, 0x37, 0x31]

/-- The GROSS of the worked sequence 4.11, byte by byte from Table 2-2: key, plate, grower 318, gross 31,200 kg. -/
def grossBytes : List Byte :=
  [0x00, 0xD4, 0x06, 0x39, 0x4B, 0x52, 0x54, 0x20, 0x34, 0x34, 0x37, 0x31, 0x01, 0x3E, 0x00, 0x79, 0xE0]

/-- A NET of that key byte by byte: tare 9,220 kg, net 21,980 kg, weighed. -/
def netBytes : List Byte := grossBytes ++ [0x00, 0x24, 0x04, 0x00, 0x55, 0xDC, 0x01, 0x00]

/-- The TIP notice of the worked figures 6.6: part 1 of 3, 7,268 kg, ages 620 and 140, distance 1,800. -/
def tipBytes (k m : Nat) : List Byte :=
  [0x00, 0xD4, 0x06, 0x39, BitVec.ofNat 8 k, BitVec.ofNat 8 m, 0x00, 0x1C, 0x64, 0x02, 0x6C, 0x00, 0x8C, 0x07, 0x08,
    0x00, 0x00, 0x01]

/-- A LOT-CRUSHED of part 1 of 1: crushed 7,268 kg, juice 5,000 kg measured, two shares. -/
def crushedBytes : List Byte :=
  [0x00, 0xD4, 0x06, 0x39, 0x01, 0x01, 0x00, 0x1C, 0x64, 0x00, 0x13, 0x88, 0x00, 0x00, 0x00, 0x00, 0x00, 0x01, 0x00, 0x02]

/-- A lot of the crush line. -/
def lot (seq k m : Nat) (mass span : Nat) (state : LotState) : Lot :=
  ⟨⟨⟨212, 6, seq, false⟩, k, m⟩, 100, 100 + BitVec.ofNat 32 span, span, span, mass, 0, 0, 0, 0, 0, state, .clear⟩

/-- A notice of the transmit queue. -/
def queued (n : Notice) (begun : Bool) : QueueEntry := ⟨n, 4, n.reported, begun, none⟩

/-- A small notice. -/
def dayEnd212 : Notice := .dayEnd ⟨212, 213⟩

/-! ### WellFormed refuses, check by check -/

theorem test_wf_frame_payload_49 : wellFormed (.receiveBeacon (from' 1 .lab) (List.replicate 49 0)) = false := by decide

theorem test_wf_frame_payload_48 : wellFormed (.receiveTip (from' 1 .tip) (List.replicate 48 0)) = true := by decide

theorem test_wf_unknown_kind_long :
    wellFormed (.receiveUnknownKind (from' 1 .lab) 8 (List.replicate 49 0)) = false := by decide

theorem test_wf_unknown_kind_known : wellFormed (.receiveUnknownKind (from' 1 .lab) 7 []) = false := by decide

theorem test_wf_unknown_kind_ok : wellFormed (.receiveUnknownKind (from' 1 .lab) 8 []) = true := by decide

theorem test_wf_unknown_record_known : wellFormed (.recordUnknownKind 0x21) = false := by decide

theorem test_wf_unknown_record_ok : wellFormed (.recordUnknownKind 0x80) = true := by decide

theorem test_wf_record_payload_61 : wellFormed (.configure (List.replicate 61 0)) = false := by decide

theorem test_wf_record_payload_60 : wellFormed (.weight (List.replicate 60 0)) = true := by decide

theorem test_wf_key_sequence_0 : wellFormed (.openEntryExpiry ⟨212, 6, 0, false⟩) = false := by decide

theorem test_wf_key_sequence_4096 : wellFormed (.awaitingEntryExpiry ⟨212, 6, 4096, false⟩) = false := by decide

theorem test_wf_key_day_0 : wellFormed (.completionTimerExpiry ⟨0, 6, 1, false⟩) = false := by decide

theorem test_wf_key_day_65536 : wellFormed (.notCrushedAgeExpiry ⟨65536, 6, 1, false⟩) = false := by decide

theorem test_wf_key_synthetic_day_0 : wellFormed (.notCrushedAgeExpiry ⟨0, 6, 4095, true⟩) = true := by decide

/-! ### The manual's worked figures -/

/-- Table 1-2: the backoff of stations 0 and 15 after one to five collisions. -/
theorem test_backoff_slots :
    [1, 2, 3, 4, 5].map (backoffSlots 0) = [1, 17, 33, 49, 49] ∧
    [1, 2, 3, 4, 5].map (backoffSlots 15) = [16, 32, 48, 64, 64] := by decide

/-- "A CLEAR record is therefore the four bytes A5h, 12h, 00h, EEh" (R181). -/
theorem test_clear_on_the_wire : wireRecord 0x12 [] = [0xA5, 0x12, 0x00, 0xEE] := by decide

/-- The bytes of that CLEAR, taken by the receiver from HUNT, are the CLEAR command (R182, R183). -/
theorem test_clear_received : takeAll FieldRx.takeByte .hunt [0xA5, 0x12, 0x00, 0xEE] = (.hunt, [.clear []]) := by decide

/-- A DAY-END of LAB at station 9 (Table 2-1: source byte 9Ah, sequence 9), half-bit by half-bit of 4 ticks from the preamble
on: the receiver gives RECEIVE_DAY_END with that header (R1, R12). -/
theorem test_day_end_received :
    let line := frameBytes [0x9A, 0x06, 0x09, 0x04, 0x00, 0xD4, 0x00, 0xD5]
    (takeAll LineEar.take ⟨.hunt [], none, true⟩ ((halfBits line).flatMap fun b => [b, b, b, b])).2 =
      [.receiveDayEnd ⟨9, 5, false, 9⟩ [0x00, 0xD4, 0x00, 0xD5]] := by
  decide +kernel

/-- After sync the line stays low: the mid-bit transition is missing long before the line is quiet, and the status is
CODE-VIOLATION, "the first of these conditions to occur" (R12). -/
theorem test_silence_after_sync :
    (takeAll LineEar.take ⟨.header [], some 3, false⟩ (List.replicate 160 false)).2 = [.frameError .codeViolation] := by
  decide +kernel

/-- "the station drives high and another station drives low" (R7): a collision, in the first half-bit of a 1 and not in its
second. -/
theorem test_collision_falls_due :
    let sending (ticks : Nat) : State := { run6 .lab with
      li := { (run6 .lab).li with tx := .sending, quiet := .active, quietTicks := 0, frame := [0xAA], txTicks := ticks }
      wires := { Wires.idle with line := .still false } }
    due (sending 3) = [.collision] ∧ due (sending 4) = [] := by decide

/-- "A contact held active at that moment is taken as becoming active 20 ms after entry" (R78), and RUN so at MILL (R90). -/
theorem test_contacts_fall_due :
    let held (r : Role) (n : Nat) : State := { run6 r with
      wires := { Wires.idle with tipping := .still false, run := .still false }
      tu := { TipUnit.reset with tipSteady := n }, cc := { CarrierCounter.reset with runSteady := n } }
    due (held .tip 9999) = [] ∧ due (count (held .tip 9999)) = [.tippingActive] ∧
    due (count (held .mill 9999)) = [.runContactActive] := by decide +kernel

/-- "A change that reverses within 20 ms is not taken" (R78): its count starts anew. -/
theorem test_contact_reverses :
    (count { run6 .tip with tu := { TipUnit.reset with tipSteady := 9999 } }).tu.tipSteady = 0 := by decide

/-- FLOW: a rising edge, then 0.5 ms high (R120). A level that was high before has no edge. -/
theorem test_flow_falls_due :
    let flow (w : Wave) (n : Option Nat) : State := { run6 .mill with
      wires := { Wires.idle with flow := w }, ja := { (run6 .mill).ja with flowTicks := n } }
    (advance (flow ⟨false, [⟨1, true⟩]⟩ none)).ja.flowTicks = some 0 ∧ due (flow (.still true) (some 249)) = [] ∧
    due (advance (flow (.still true) (some 249))) = [.flowPulse] ∧
    (advance (flow (.still true) none)).ja.flowTicks = none := by decide +kernel

/-- A rising edge of STEP with DIR low is a reverse pulse (R86). -/
theorem test_step_edge :
    (advance { run6 .tip with wires := { Wires.idle with stepPin := ⟨false, [⟨1, true⟩]⟩ } }).pending =
      [.stepPulse false] := by decide +kernel

/-- A stall, RUN off and on again (R91, R92): in withholding the latest observation is still the stall, so the condition
holds. -/
theorem test_stall_outlives_release :
    let s := { run6 .mill with cc := { CarrierCounter.reset with runLevel := true, lastStall := true } }
    ∃ t u, exec .runContactRelease s = .next t ∧ exec .runContactActive t = .next u ∧
      (mon t .carrierStall).condition = false ∧ (mon u .carrierStall).condition = true := ⟨_, _, rfl, rfl, by decide, by decide⟩

/-- "more than 50 ms pass after a byte of the record is taken with no next byte taken" (R182): due at 25,001 ticks, not at
25,000. -/
theorem test_gap_falls_due :
    let gap (n : Nat) : State := { run6 .lab with fp := { FieldPort.reset with rx := .kind, gapTicks := n } }
    let late (n : Nat) : State := { gap n with wires := { Wires.idle with rxd := [⟨0, serialBits 0x12⟩] } }
    due (gap 25000) = [] ∧ due (gap 25001) = [.recordGapTimeout] ∧ (advance (late 25000)).fp.rx = .length 0x12 ∧
    step (late 25001) = .next { late 25001 with pending := [.recordGapTimeout] } :=
  ⟨by decide, by decide, by decide +kernel, rfl⟩

/-- The published check value of the CRC of R5 (x^16 + x^12 + x^5 + 1, preset FFFFh) over "123456789" is 29B1h. -/
theorem test_crc_check_value :
    crc16 [0x31, 0x32, 0x33, 0x34, 0x35, 0x36, 0x37, 0x38, 0x39] = 0x29B1#16 := by decide +kernel

/-- R1: a 1 is high then low, a 0 low then high, most significant bit first. -/
theorem test_half_bits : halfBits [0xB4] = [true, false, false, true, true, false, true, false, false, true, true, false,
    false, true, false, true] := by decide

/-- The GROSS of 4.11 as its bytes. -/
theorem test_gross_bytes : readGross 6 grossBytes = some ⟨key57, plate4471, 318, 31200⟩ ∧
    (Notice.gross ⟨key57, plate4471, 318, 31200⟩).payload = grossBytes := by decide

/-- The NET of that key as its bytes. -/
theorem test_net_bytes :
    readNet netBytes = some ⟨key57, plate4471, 318, 31200, 9220, 21980, .weighed, false⟩ := by decide

/-- The TIP notice of 6.6 as its bytes, and its window at P = 50,000. -/
theorem test_tip_bytes : ∃ n, readTip (tipBytes 1 3) = some n ∧ n.mass = 7268 ∧
    windowFront 50000 n = 51180 ∧ windowBack 50000 n = 51660 := ⟨_, rfl, by decide⟩

/-- The seven portions of 6.6: a lot of 9,000 kg with S_rem 7. -/
theorem test_portions : (List.range 7).map (fun i => (Nat.iterate Lot.afterPortion i (lot 57 1 1 9000 7 .onCarrier)).portion) =
    [1285, 1285, 1286, 1286, 1286, 1286, 1286] := by decide

/-- The part masses of R75: 21,800 kg in three. -/
theorem test_part_masses : partMasses 21800 3 = [7268, 7266, 7266] := by decide

/-- The apportionment of 7.9: 3,717 kg over 1,250, 3,410 and 840 kg gives 845, 2,304 and 568 kg. -/
theorem test_apportionment :
    (apportion 3717 [⟨⟨key57, 1, 3⟩, 1250⟩, ⟨⟨key57, 2, 3⟩, 3410⟩, ⟨⟨key57, 3, 3⟩, 840⟩]).map (fun c => (c.lot.k, c.credit)) =
      [(1, 845), (3, 568), (2, 2304)] := by decide

/-- Table 7-1: R_ref moves with step 8, window 12, asymmetric set; the last row has window 0. -/
theorem test_rref_moves :
    moveRref millExample 675 640 = 648 ∧ moveRref millExample 600 648 = 644 ∧ moveRref millExample 645 648 = 647 ∧
    moveRref millExample 652 648 = 649 ∧ moveRref { millExample with window := 0 } 646 648 = 646 := by decide

/-- The figures of R158: net 24,380 kg, juice 16,920 kg, brix 1840, pol 1462. -/
theorem test_figures :
    purity ⟨1840, 1462⟩ = 794 ∧ sucrose 16920 ⟨1840, 1462⟩ = 2473 ∧ perTonne 16920 24380 = 694 ∧
    perTonne 2473 24380 = 101 := by decide

/-- The weighing of 4.11 at its last reading: the run stands at 3 around 31,210 kg, and 31,200 kg completes it. -/
def settling : State := { run6 .entry with
  wu := { WeighUnit.reset with
    capture := .settling, vehicle := some ⟨plate4471, some 318⟩, zeroSeen := true, runCount := 3, runCentre := some 31210
    consSeq := 57 } }

/-- The state after a command, for a command that completes. -/
def after (c : Instr) (s : State) : State :=
  match exec c s with
  | .next t => t
  | .fault _ => s
  | .refused _ => s

theorem test_capture_of_4_11 :
    let t := after (.weight [0x00, 0x79, 0xE0, 0x00]) settling
    t.fp.out = [.captured 31200, .reply 0x21 .accepted 0] ∧ t.wu.consSeq = 58 ∧ t.wu.capture = .idle ∧
    t.wu.zeroSeen = false ∧ t.li.queue.map (·.notice) = [.gross ⟨key57, plate4471, 318, 31200⟩] ∧
    t.li.queue.map (·.seq) = [0] := by decide

/-- The lot of 6.6 at the mouth: its first portion is 15 kg of 7,268 kg over 480 positions. -/
theorem test_first_portion_of_6_6 :
    let s := { run6 .mill with
      cc := { CarrierCounter.reset with p := 100 }
      cl := { CrushLine.reset with lots := [lot 57 1 3 7268 480 .onCarrier] } }
    let t := after (.stepPulse true) s
    t.cc.p = 101 ∧ t.cl.crushed = 15 ∧ t.cl.lots.map (fun l => (l.massRem, l.spanRem, l.state)) = [(7253, 479, .crushing)] ∧
    t.ja.shares.map (·.mass) = [15] := by decide

/-- Power-up at station 6: STN 6, ROLEA and ROLEB as Table 1 gives MILL. -/
theorem test_power_up_end :
    (after (.powerUpEnd 6 .floating .high) State.reset).part.role = some .mill ∧
    (after (.powerUpEnd 6 .floating .high) State.reset).part.stationState = .config ∧
    (after (.powerUpEnd 6 .low .low) State.reset).part.muteCause = .strap := by decide

/-! ### Witnesses: every hypothesis of a statement is met, clause by clause -/

/-- A payload of zeros. -/
def zeros (n : Nat) : List Byte := List.replicate n 0

/-- A queue of `n` notices. -/
def queueOf (n : Nat) : List QueueEntry := List.replicate n (queued dayEnd212 false)

/-- The line interface of `s` changed. -/
def withLi (s : State) (f : LineInterface → LineInterface) : State := { s with li := f s.li }

/-- The state with `n` items in the outbound queue. -/
def withOut (s : State) (n : Nat) : State :=
  { s with fp := { s.fp with out := List.replicate n (.captured 0) } }

theorem test_witness_IdleStepQueuesDueOrCounts :
    State.reset.pending = [] ∧ ({ run6 .lab with clock := ⟨499, 124⟩ } : State).pending = [] := by decide

theorem test_witness_ResetsAndPowerUpSetTheStation :
    State.reset.part.stationState = .powerUp ∧ State.reset.part.resetLow = false := by decide

theorem test_witness_StationStateIsHeld :
    (at6 .mill .mute).part.stationState = .mute ∧ SilentOutsideRun (at6 .mill .mute) ∧ isReset .lineQuiet = false ∧
    (∃ t, exec .lineQuiet (at6 .mill .mute) = .next t) ∧ (∃ t, exec (.clearFresh []) (run6 .mill) = .next t) ∧
    ∃ t, exec .powerOn (run6 .mill) = .next t :=
  ⟨by decide, by decide, by decide, ⟨_, rfl⟩, ⟨_, rfl⟩, ⟨_, rfl⟩⟩

theorem test_witness_StepKeepsSilenceOutsideRun :
    SilentOutsideRun (at6 .lab .config) ∧ ∃ t, step (at6 .lab .config) = .next t := ⟨by decide, _, rfl⟩

/-- A state with every bounded queue and table at a bound that tests reach. -/
def fullLab : State := { run6 .lab with
  ra := { RecordAssembler.reset with
    table := List.replicate 48 (newEntry key57), store := List.replicate 256 (.day ⟨212, .zero, none⟩), readCount := 256 } }

/-- LAB with a store at its bound, an entry whose record waits and an OPEN one, and a summary wait. -/
def waitingLab : State := { run6 .lab with
  ra := { RecordAssembler.reset with
    table := [{ newEntry key57 with closed := some (closeRecord .lapsed (newEntry key57)) }, newEntry ⟨212, 6, 58, false⟩]
    ready := [.cons (closeRecord .lapsed (newEntry key57))], store := List.replicate 256 (.day ⟨212, .zero, none⟩)
    wait := some ⟨212, .zero, 0⟩ } }

theorem test_witness_StepKeepsCapacities :
    WithinCapacities fullLab ∧ (∃ t, step fullLab = .next t) ∧ TablesDistinct waitingLab ∧
    ∃ t, step waitingLab = .next t :=
  ⟨by decide +kernel, ⟨_, rfl⟩, by decide +kernel, _, rfl⟩

theorem test_witness_StepKeepsMonitorsSound :
    MonitorsSound (run6 .mill) ∧ PauseFollowsStall (run6 .mill) ∧ ∃ t, step (run6 .mill) = .next t :=
  ⟨fun i => by cases i <;> decide, by decide, _, rfl⟩

/-- MILL with 7,000 kg entered, 100 kg of them crushed into a share. -/
def crushing : State := { run6 .mill with
  cl := { CrushLine.reset with entered := 7000, crushed := 100, lots := [lot 57 1 1 6900 480 .crushing] }
  ja := { (run6 .mill).ja with shares := [⟨⟨key57, 1, 1⟩, 100⟩], pulses := 65534 } }

theorem test_witness_CaneBalanceHolds :
    CaneBalance crushing ∧ DrainedLotsEmpty crushing ∧ ∃ t, step crushing = .next t := ⟨by decide, by decide, _, rfl⟩

theorem test_witness_JuiceBalanceHolds : JuiceBalance crushing ∧ ∃ t, step crushing = .next t := ⟨by decide, _, rfl⟩

/-- The sync byte after eight preamble bits (R4, R12). -/
def synced : List Bool := byteBits 0xAA ++ byteBits 0xB4

theorem test_witness_LineStateFollowsTheLine :
    let own (tx : TxState) : State := { run6 .lab with li := { (run6 .lab).li with tx := tx } }
    (run6 .lab).part.resetLow = false ∧ Listens (run6 .lab) ∧ (synced.take 14).length < 15 ∧
    (synced.take 15).length = 15 ∧ ([true] ++ synced.take 15).length = 16 ∧ synced.take 15 ++ [false] = synced ∧
    synced.take 8 = (List.range 8).map (fun i => true ^^ (i % 2 == 1)) ∧
    (List.replicate 30 true ++ [true]).length < 32 ∧
    ((bytesOfBits ([1, 2, 3, 48].flatMap byteBits)).getD 3 0).toNat = 48 ∧
    48 < ((bytesOfBits ([1, 2, 3, 49].flatMap byteBits)).getD 3 0).toNat ∧
    (([1, 2, 3, 0, 0, 0] : List Byte).flatMap byteBits).length = (0 + 6) * 8 ∧
    (own .sending).li.tx = .sending ∧ (own .mark).li.tx = .mark ∧ (run6 .lab).li.tx ≠ .sending ∧
    (run6 .lab).li.tx ≠ .mark ∧ 4 < 5 ∧ 5 ≤ 5 ∧ 8 < 9 ∧ 9 ≤ 9 := by decide

/-- In WAITING with this frame in hand and this queue. -/
def waiting (f : InHand) (q : List QueueEntry) : State :=
  withLi (run6 .exit) fun li => { li with tx := .waiting, inHand := some f, queue := q }

theorem test_witness_AttemptsSendTheFrameInHand :
    let s := waiting .queueHead (queueOf 2)
    let u := withLi s fun li => { li with tx := .sending }
    s.part.stationState = .run ∧ s.part.role = some .exit ∧ s.li.tx = .waiting ∧ s.li.quiet = .quiet ∧
    s.li.slotsLeft = 0 ∧ s.li.inHand = some .queueHead ∧ s.li.queue = queued dayEnd212 false :: queueOf 1 ∧
    (waiting .startedBeacon []).li.inHand = some .startedBeacon ∧
    (waiting .regularBeacon []).li.inHand = some .regularBeacon ∧
    u.part.stationState = .run ∧ u.li.tx = .sending ∧ u.li.inHand = some .queueHead ∧
    (∃ n a, (⟨.tip n, 4, true, false, some a⟩ : QueueEntry).ages = some (⟨65535, 140, true⟩ : AgePair)) ∧
    (queued dayEnd212 false).ages = none :=
  ⟨by decide, by decide, by decide, by decide, by decide, by decide, by decide, by decide, by decide, by decide, by decide,
    by decide, ⟨⟨⟨key57, 1, 1⟩, 1, 0, 0, 1, .clear, 1⟩, ⟨65535, 140, true⟩, rfl⟩, by decide⟩

theorem test_witness_CollisionsMarkAndBackOff :
    let s := withLi (waiting .regularBeacon (queueOf 1)) fun li => { li with tx := .sending, collisions := 7 }
    let m := withLi s fun li => { li with tx := .mark, collisions := 255 }
    let b := withLi s fun li => { li with tx := .backoff }
    let e := withLi b fun li => { li with queue := [] }
    s.li.tx = .sending ∧ m.li.tx = .mark ∧ b.li.tx = .backoff ∧ b.li.inHand = some .regularBeacon ∧ b.li.queue ≠ [] ∧
    b.part.stationState = .run ∧ b.li.startedSent = true ∧ e.li.tx = .backoff ∧
    ¬(e.li.inHand = some .regularBeacon ∧ e.li.queue ≠ []) := by decide

theorem test_witness_BeaconsAreTakenInHandWhenDue :
    let s := withLi (run6 .lab) fun li => { li with startedSent := false }
    s.part.stationState = .run ∧ s.li.startedSent = false ∧ s.li.tx = .idle ∧ (run6 .lab).li.startedSent = true ∧
    (run6 .lab).li.tx = .idle ∧ (run6 .lab).li.queue = [] ∧ (waiting .queueHead (queueOf 1)).li.tx ≠ .idle ∧
    (waiting .queueHead (queueOf 1)).li.startedSent = true := by decide

theorem test_witness_OfferedNoticeJoinsOrIsLost :
    let s := waiting .regularBeacon []
    s.li.queue.length < 8 ∧ (queueOf 7).length < 8 ∧ 8 ≤ (queueOf 8).length ∧ s.part.stationState = .run ∧
    s.li.startedSent = true ∧ s.li.tx = .waiting ∧ s.li.inHand = some .regularBeacon ∧ (run6 .exit).li.tx = .idle ∧
    (waiting .queueHead (queueOf 7)).li.inHand ≠ some .regularBeacon := by decide

theorem test_witness_FramesAreCountedOrPassedOn :
    let h := from' 1 .lab
    asFrame (.receiveBeacon h (zeros 9)) = some (h, 1, zeros 9) ∧
    ¬ Listens (withLi (run6 .lab) fun li => { li with tx := .sending }) ∧ Listens (run6 .lab) ∧
    (⟨1, 0, false, 0⟩ : FrameHeader).roleCode.val < 1 ∧ 5 < (⟨1, 6, false, 0⟩ : FrameHeader).roleCode.val ∧
    1 ≤ h.roleCode.val ∧ h.roleCode.val ≤ 5 ∧ (at6 .lab .mute).part.stationState = .mute ∧ Listens (at6 .lab .mute) ∧
    State.reset.part.stationState = .powerUp ∧ Listens (withLi State.reset fun li => { li with rx := .hunt [] }) ∧ Passes .lab h (run6 .mill) ∧
    8 ≤ (8 : Byte).toNat ∧ readNotice 1 h.station .lab (zeros 9) = none ∧
    readNotice 7 h.station .lab (zeros 46) = none := by decide

theorem test_witness_DuplicateStationOrRoleMutes :
    let h := from' 6 .tip
    let g := from' 5 .lab
    asFrame (.receiveTip h []) = some (h, 4, []) ∧ Listens (run6 .lab) ∧ h.roleCode.val = roleCode .tip ∧
    h.station = (run6 .lab).part.station ∧ asFrame (.receiveDayEnd g []) = some (g, 6, []) ∧
    g.roleCode.val = roleCode .lab ∧ (run6 .lab).part.role = some .lab ∧ g.station < (run6 .lab).part.station ∧
    (run6 .lab).part.stationState = .run := by decide

theorem test_witness_PeerTableTakesTheFrame :
    let h := from' 15 .tip
    let e : PeerEntry := ⟨.silent, some .exit, some 9, 255, 65535, true, .nothing, 0⟩
    asFrame (.receiveTip h []) = some (h, 4, []) ∧ Passes .tip h (run6 .lab) ∧ e.role ≠ none ∧ e.role ≠ some .tip ∧
    ((9 : SeqNo) - 8).toNat = 1 ∧ ((7 : SeqNo) - 8).toNat = 255 ∧ ([1, 1] : List Byte)[1]? = some 1 ∧
    (1 : Byte).getLsbD 0 = true ∧ (2 : Byte).getLsbD 0 = false ∧ ([2] : List Byte)[0]? = some 2 := by decide

theorem test_witness_SilentPeersAreReported :
    let s := setPeer 3 { PeerEntry.absent with state := .heard, role := some .entry } (run6 .tip)
    s.part.stationState = .run ∧ (peer s 3).state = .heard ∧ s.part.role = some .tip ∧
    (setPeer 3 { PeerEntry.absent with state := .heard } (at6 .tip .config)).part.stationState = .config := by decide

/-- A beacon of LAB for this day. -/
def beaconBytes (day : Nat) : List Byte := [2, 0] ++ be 2 day ++ [0, 0, 0, 0x0F, 0xFF]

theorem test_witness_LineDaysAreAdopted :
    Passes .lab (from' 1 .lab) (run6 .entry) ∧
    readBeacon (beaconBytes 213) = some ⟨false, false, false, 213, 0, 0, 4095⟩ ∧
    readBeacon (beaconBytes 0) = some ⟨false, false, false, 0, 0, 0, 4095⟩ ∧
    readDayEnd [0xFF, 0xFF, 0, 1] = some ⟨65535, 1⟩ ∧ ¬ Works .mill (run6 .entry) := by decide

theorem test_witness_MillDayEndSamplesAndZeroes :
    Works .mill crushing ∧ Passes .lab (from' 1 .lab) crushing ∧ readDayEnd [0, 212, 0, 213] = some ⟨212, 213⟩ ∧
    readDayEnd [0, 211, 0, 212] = some ⟨211, 212⟩ := by decide

/-- EXIT with `n` open entries, the oldest of key 57. -/
def exitWith (n : Nat) : State := { run6 .exit with
  wu := { WeighUnit.reset with
    openTable := (List.range n).map fun i => ⟨⟨212, 6, 57 + i, false⟩, plate4471, 318, 31200, 0⟩ } }

theorem test_witness_ExitKeepsTheOpenTable :
    let g : GrossNotice := ⟨key57, plate4471, 318, 31200⟩
    let h := from' 6 .entry
    let s (n : Nat) : State := { exitWith n with part := { (exitWith n).part with station := 7 } }
    Works .exit (s 1) ∧ Passes .entry h (s 1) ∧ readGross h.station grossBytes = some g ∧
    (∃ e ∈ (s 1).wu.openTable, e.key = g.key) ∧ (∀ e ∈ (s 0).wu.openTable, e.key ≠ g.key) ∧
    (s 0).wu.openTable.length < 64 ∧ 64 ≤ (s 64).wu.openTable.length ∧ Works .exit (s 64) ∧ Passes .entry h (s 64) ∧
    (∀ e ∈ (s 64).wu.openTable.map (fun e => { e with key := { e.key with day := 211 } }), e.key ≠ g.key) ∧
    (s 1).wu.openTable.find? (·.key = key57) = some ⟨key57, plate4471, 318, 31200, 0⟩ := by decide

/-- TIP at station 7 with `n` awaiting entries of keys from 57 on, and this arming record. -/
def tipWith (n : Nat) (a : Option Arming) : State := { run6 .tip with
  part := { (run6 .tip).part with station := 7 }
  tu := { TipUnit.reset with
    awaiting := (List.range n).map fun i => ⟨⟨212, 6, 57 + i, false⟩, plate4471, 31200, 0⟩, arming := a } }

theorem test_witness_TipKeepsTheAwaitingTable :
    let h := from' 6 .entry
    let later : GrossNotice := ⟨⟨212, 6, 4095, false⟩, plate4471, 318, 31200⟩
    Works .tip (tipWith 1 none) ∧ Passes .entry h (tipWith 1 none) ∧ Passes .entry h (tipWith 32 none) ∧
    readGross h.station grossBytes = some ⟨key57, plate4471, 318, 31200⟩ ∧
    (∃ e ∈ (tipWith 1 none).tu.awaiting, e.key = key57) ∧
    readGross h.station (Notice.gross later).payload = some later ∧
    (∀ e ∈ (tipWith 32 none).tu.awaiting, e.key ≠ later.key) ∧ (tipWith 32 none).tu.arming = none ∧
    (tipWith 31 none).tu.awaiting.length < 32 ∧ 32 ≤ (tipWith 32 none).tu.awaiting.length ∧
    Passes .exit (from' 2 .exit) (tipWith 1 none) ∧ (readNet netBytes).isSome = true := by decide

theorem test_witness_TareTablesKeepTheOrderOfUse :
    let t : List TareEntry := (List.range 128).map fun i => ⟨[BitVec.ofNat 8 i], i⟩
    t.length ≤ 128 ∧ t.Pairwise (fun a b => a.plate ≠ b.plate) ∧ (∃ e ∈ t, e.plate = [127]) ∧
    (∀ e ∈ t, e.plate ≠ [128]) := by decide +kernel

theorem test_witness_VehicleIsTakenInHand :
    let s := run6 .entry
    let p : List Byte := plate4471 ++ [1, 0x3E]
    Works .entry s ∧ PortTakes s ∧ p.length = 10 ∧ (∀ b ∈ p.take 8, plateChar b = true) ∧ field p 8 2 ≠ 0 ∧
    s.part.day ≠ 0 ∧ (mon s .scaleOver).effective = false ∧ (∃ b ∈ (zeros 10).take 8, plateChar b = false) ∧
    (mon (setActive .scaleOver s) .scaleOver).effective = true ∧ Works .exit (run6 .exit) ∧ plate4471.length = 8 ∧
    ({ s.part with day := 0 } : Part).day = 0 ∧ PortTakes (withOut s 15) := by decide

/-- WEIGHT bytes of a weight in kg, and a status. -/
def weightBytes (w : Int) (status : Byte) : List Byte := be 3 (w % 16777216).toNat ++ [status]

theorem test_witness_ReadingsDriveTheCapture :
    let s := run6 .entry
    Works .entry s ∧ PortTakes s ∧ (weightBytes 31200 0).length = 4 ∧
    signedField (weightBytes (-99999) 0) 0 3 = -99999 ∧ signedField (weightBytes (-100000) 0) 0 3 < -99999 ∧
    signedField (weightBytes 199999 3) 0 3 = 199999 ∧ signedField (weightBytes 200000 0) 0 3 = 200000 ∧
    s.wu.capture = .idle ∧
    ({ s with wu := { s.wu with capture := .armed } } : State).wu.capture = .armed ∧
    settling.wu.capture = .settling ∧ settling.wu.runCentre = some 31210 ∧
    settling.wu.vehicle = some ⟨plate4471, some 318⟩ ∧ (weighCfg settling).stableCount ≤ settling.wu.runCount + 1 ∧
    (31210 : Int) - (weighCfg settling).band ≤ 31190 ∧ (31230 : Int) ≤ 31210 + (weighCfg settling).band ∧
    ({ settling.wu with runCount := 2 } : WeighUnit).runCount + 1 < (weighCfg settling).stableCount := by decide

theorem test_witness_CapturesGiveGrossAndNet :
    (⟨plate4471, some 318⟩ : Vehicle).grower = some 318 ∧
    (exitWith 1).wu.openTable = [] ++ ⟨key57, plate4471, 318, 31200, 0⟩ :: [] ∧
    (∀ x ∈ (exitWith 1).wu.openTable, x.plate ≠ zeros 8) := by decide

theorem test_witness_AssignArmsAndDisarmClears :
    let p : List Byte := [1] ++ plate4471 ++ [3]
    let q : List Byte := [2, 0, 212, 6, 57, 1]
    let s := tipWith 1 none
    let armed := tipWith 1 (some ⟨key57, false, 3, 1, [1, 1, 1]⟩)
    Works .tip s ∧ PortTakes s ∧ p.length = 10 ∧ q.length = 6 ∧ field p 0 1 = 1 ∧ field q 0 1 = 2 ∧ field p 9 1 = 3 ∧
    field q 5 1 = 1 ∧ (∀ b ∈ (p.drop 1).take 8, plateChar b = true) ∧ readKey q 1 false = key57 ∧
    s.tu.session = .idle ∧ s.tu.arming = none ∧ armed.tu.arming ≠ none ∧
    s.tu.awaiting = [] ++ ⟨key57, plate4471, 31200, 0⟩ :: [] ∧ (tipWith 0 none).tu.awaiting = [] ∧
    field ([1] ++ zeros 5) 0 1 = 1 ∧ field (zeros 10) 0 1 = 0 := by decide

/-- TIP in a session, with an arming record. -/
def inSession (st : SessionState) (age : Nat) : State :=
  let s := tipWith 0 (some ⟨key57, false, 3, 3, [1, 1, 1]⟩)
  { s with tu := { s.tu with session := st, tipLevel := true, sessionAge := some age } }

theorem test_witness_TipSessionGivesALot :
    Works .tip (tipWith 0 none) ∧ (tipWith 0 none).tu.tipLevel = false ∧ (tipWith 0 none).tu.arming = none ∧
    (inSession .tipping 0).tu.session = .tipping ∧ (inSession .settle 65535).tu.session = .settle ∧
    (inSession .settle 65535).tu.tipLevel = true ∧ (inSession .settle 65535).tu.sessionAge = some 65535 ∧
    (inSession .settle 65535).tu.arming = some ⟨key57, false, 3, 3, [1, 1, 1]⟩ ∧ Works .tip (inSession .settle 65535) ∧
    (tipWith 0 (some ⟨key57, false, 1, 1, [1]⟩)).tu.arming ≠ none := by decide

theorem test_witness_StepPulsesMoveAndMeasure :
    let debt (d : Nat) : State := { run6 .tip with cc := { CarrierCounter.reset with debt := d } }
    Works .tip (debt 0) ∧ Works .mill (run6 .mill) ∧ (run6 .mill).cc.debt = 0 ∧ (debt 65534).cc.debt < 65535 ∧
    65535 ≤ (debt 65535).cc.debt ∧ 0 < (debt 1).cc.debt ∧ (debt 0).cc.debt = 0 := by decide

theorem test_witness_StallObservationsAreMade :
    let running : State := { run6 .mill with cc := { CarrierCounter.reset with runLevel := true } }
    let held : State := { run6 .mill with cc := { CarrierCounter.reset with runLevel := true, withholding := true } }
    let measuring : State := { run6 .tip with cc := { CarrierCounter.reset with measure := some ⟨4095, 0⟩ } }
    Works .mill running ∧ running.cc.runLevel = true ∧ running.cc.withholding = false ∧ running.cc.measure = none ∧
    (run6 .mill).cc.runLevel = false ∧ held.cc.withholding = true ∧ Works .tip measuring ∧
    measuring.cc.measure ≠ none := by decide

/-- MILL with `n` lots of other keys. -/
def millWith (n : Nat) : State := { run6 .mill with
  cl := { CrushLine.reset with lots := (List.range n).map fun i => lot (100 + i) 1 1 5 9 .onCarrier } }

theorem test_witness_TipNoticesEnterLots :
    ∃ n, readTip (tipBytes 1 3) = some n ∧ Works .mill (millWith 32) ∧ Passes .tip (from' 2 .tip) (millWith 32) ∧
    (∀ l ∈ (millWith 32).cl.lots, l.lot ≠ n.lot) ∧ 32 ≤ (millWith 32).cl.lots.length ∧
    (millWith 31).cl.lots.length < 32 ∧ (∃ l ∈ [lot 57 1 3 0 1 .draining], l.lot = n.lot) ∧
    (((0 : Position) - BitVec.ofNat 32 n.ageStart + BitVec.ofNat 32 n.distance) - 0).msb = false ∧
    (((0 : Position) - 1) - 0).msb = true ∧ ((0 : Position) - 0).msb = false := ⟨_, rfl, by decide⟩

theorem test_witness_PortionsEnterShares :
    crushing.cl.lots = [] ++ lot 57 1 1 6900 480 .crushing :: [] ∧
    (∃ sh ∈ crushing.ja.shares, sh.lot = (lot 57 1 1 6900 480 .crushing).lot) ∧
    (millWith 1).cl.lots = [] ++ lot 100 1 1 5 9 .onCarrier :: [] ∧ (millWith 1).ja.shares.length < 8 ∧
    (¬ ∃ sh ∈ List.replicate 8 (⟨⟨key57, 1, 1⟩, 0⟩ : Share), sh.lot = (lot 100 1 1 5 9 .onCarrier).lot) ∧
    8 ≤ (List.replicate 8 (⟨⟨key57, 1, 1⟩, 0⟩ : Share)).length := by decide

theorem test_witness_MassesAreDividedExactly :
    1 ≤ 3 ∧ 1 ≤ (lot 57 1 1 9000 7 .onCarrier).spanRem ∧ 1 ≤ (lot 57 1 1 9000 1 .onCarrier).spanRem := by decide

theorem test_witness_NetsCorrectLots :
    let s := crushing
    let nets (n : Nat) : List PendingNet := (List.range n).map fun i => ⟨⟨212, 6, 58 + i, false⟩, 5⟩
    ∃ n, readNet netBytes = some n ∧ Works .mill s ∧ Passes .exit (from' 2 .exit) s ∧
    s.cl.lots = [] ++ lot 57 1 1 6900 480 .crushing :: [] ∧ (lot 57 1 1 6900 480 .crushing).lot.key = n.key ∧
    (lot 57 1 1 6900 480 .crushing).lot.m = 1 ∧ (lot 57 1 1 6900 480 .onCarrier).state = .onCarrier ∧
    (lot 57 1 1 0 0 .draining).state = .draining ∧
    (∀ x ∈ [lot 57 1 2 5 9 .onCarrier], ¬(x.lot.key = n.key ∧ x.lot.m = 1)) ∧
    (∃ x ∈ [lot 57 1 2 5 9 .onCarrier], x.lot.key = n.key) ∧ (∀ x ∈ (millWith 3).cl.lots, x.lot.key ≠ n.key) ∧
    (∃ e ∈ [(⟨key57, 0⟩ : PendingNet)], e.key = n.key) ∧ (∀ e ∈ nets 16, e.key ≠ n.key) ∧ 16 ≤ (nets 16).length ∧
    (nets 15).length < 16 := ⟨_, rfl, by decide⟩

theorem test_witness_ApportionmentIsExact :
    0 < (([⟨⟨key57, 1, 3⟩, 0⟩, ⟨⟨key57, 2, 3⟩, 1⟩] : List Share).map (·.mass)).sum ∧
    (millWith 5).cl.lots.Pairwise (fun a b => a.lot ≠ b.lot) ∧
    ([⟨(lot 102 1 1 0 0 .draining).lot, 4⟩, ⟨(lot 100 1 1 0 0 .draining).lot, 4⟩] : List Share).Pairwise
      (fun a b => a.lot ≠ b.lot) ∧
    (∃ l ∈ (millWith 5).cl.lots, l.lot = (lot 102 1 1 0 0 .draining).lot) ∧
    ∃ l ∈ (millWith 5).cl.lots, l.lot = (lot 100 1 1 0 0 .draining).lot := by decide

theorem test_witness_ReferenceExtractionMovesToward :
    (⟨10, settingsOf .mill⟩ : Settings).forRole = .mill millExample ∧ 1 ≤ millExample.step ∧ 675 ≤ 1500 ∧ 1500 ≤ 1500 ∧
    640 < 675 ∧ millExample.asymmetric = true ∧ ({ millExample with asymmetric := false } : MillSettings).asymmetric = false := by
  decide

theorem test_witness_AttributionTakesItsPath :
    let b : Breakdown := ⟨1, [⟨⟨key57, 1, 1⟩, 100⟩], false⟩
    let s : State := { run6 .mill with ja := { (run6 .mill).ja with ring := [⟨0, [], true⟩, b] } }
    (∀ b ∈ s.ja.ring, b.number ≠ 2) ∧ s.ja.ring = [⟨0, [], true⟩] ++ b :: [] ∧ b.number = 1 ∧
    (∀ x ∈ [(⟨0, [], true⟩ : Breakdown)], x.number ≠ 1) := by decide

theorem test_witness_PeriodsCountAndClose :
    Works .mill crushing ∧ crushing.ja.isOpen = true ∧ crushing.ja.pulses < 65535 ∧ crushing.ja.isPaused = false ∧
    65535 ≤ ({ crushing.ja with pulses := 65535 } : JuiceAttributor).pulses ∧
    ({ crushing.ja with isPaused := true } : JuiceAttributor).isPaused = true := by decide

/-- LAB at station 6 with one entry of key 57, and this many others. -/
def labWith (e : AsmEntry) (n : Nat) : State := { run6 .lab with
  ra := { RecordAssembler.reset with
    table := e :: (List.range n).map fun i => newEntry ⟨212, 6, 100 + i, false⟩ } }

theorem test_witness_LabTakesNoticesByKey :
    let s := labWith (newEntry key57) 46
    let e := newEntry ⟨212, 6, 99, false⟩
    let g : GrossNotice := ⟨key57, plate4471, 318, 31200⟩
    let other : State := { s with part := { s.part with station := 9 } }
    Works .lab other ∧ Passes .entry (from' 6 .entry) other ∧ readGross 6 grossBytes = some g ∧
    Passes .exit (from' 2 .exit) other ∧ (readNet netBytes).isSome = true ∧ Passes .mill (from' 3 .mill) other ∧
    (readLotCrushed crushedBytes).isSome = true ∧ s.ra.table.find? (·.key = key57) = some (newEntry key57) ∧
    (newEntry key57).closed = none ∧ (newEntry key57).net = none ∧ (∀ x ∈ (labWith e 46).ra.table, x.key ≠ key57) ∧
    (labWith e 46).ra.table.length < 48 ∧ 48 ≤ (labWith e 47).ra.table.length ∧
    closedKey (.cons (closeRecord .lapsed (newEntry key57))) = some key57 := by decide

theorem test_witness_ClosingsMakeTheRecord :
    let s := labWith (newEntry key57) 3
    s.ra.table = [] ++ newEntry key57 :: s.ra.table.drop 1 ∧ (newEntry key57).key = key57 ∧
    s.ra.table.Pairwise (fun a b => a.key ≠ b.key) ∧
    entryComplete { newEntry key57 with
      m := some 1, parts := [1], net := some ⟨9220, 21980, .weighed⟩, analysis := some ⟨1840, 1462⟩ } = true ∧
    entryComplete (newEntry key57) = false ∧
    (labWith (newEntry ⟨212, 6, 99, false⟩) 3).ra.table = (labWith (newEntry ⟨212, 6, 99, false⟩) 3).ra.table ∧
    (∀ x ∈ (labWith (newEntry ⟨212, 6, 99, false⟩) 3).ra.table, x.key ≠ (newEntry key57).key) := by decide

theorem test_witness_ReadyItemsEnterTheStore :
    (run6 .lab).ra.store.length < 256 ∧ 256 ≤ fullLab.ra.store.length ∧
    256 ≤ (fullLab.ra.store.drop 1).length + 1 ∧ (fullLab.ra.store.drop 1).length < 256 := by decide +kernel

theorem test_witness_LabTimersCloseAndEndTheWait :
    let e := { newEntry key57 with completionMs := some 7200000, parts := [1] }
    let s := labWith e 1
    let w : SummaryWait := ⟨212, .zero, 60000⟩
    Works .lab s ∧ s.ra.table.find? (·.key = key57) = some e ∧ e.closed = none ∧ e.completionMs ≠ none ∧ e.parts ≠ [] ∧
    (newEntry key57).parts = [] ∧ ({ s.ra with wait := some w } : RecordAssembler).wait = some w ∧
    Passes .mill (from' 3 .mill) s ∧ (readDaySummary ([0, 212] ++ zeros 44)).map (·.day) = some 212 ∧
    (readDaySummary ([0, 213] ++ zeros 44)).map (·.day) = some 213 := by decide

theorem test_witness_AnalysesJoinTheirEntry :
    let p : List Byte := [0, 212, 6, 57, 0, 0x07, 0x30, 0x05, 0xB6]
    let s := labWith (newEntry key57) 46
    Works .lab s ∧ PortTakes s ∧ p.length = 9 ∧ readKey p 0 (field p 4 1 % 2 == 1) = key57 ∧ field p 5 2 = 1840 ∧
    field p 7 2 = 1462 ∧ s.ra.table.find? (·.key = key57) = some (newEntry key57) ∧
    (labWith (newEntry ⟨212, 6, 99, false⟩) 47).ra.table.find? (·.key = key57) = none ∧
    48 ≤ (labWith (newEntry ⟨212, 6, 99, false⟩) 47).ra.table.length ∧ field (zeros 9) 0 2 = 0 := by decide

theorem test_witness_DayEndOpensTheNextDay :
    Works .lab (run6 .lab) ∧ PortTakes (run6 .lab) ∧ (run6 .lab).ra.wait = none ∧ (run6 .lab).ra.ready = [] ∧
    (some (⟨212, .zero, 0⟩ : SummaryWait)) ≠ none := by decide

theorem test_witness_StoredRecordsAreReadAndReleased :
    let s := { fullLab with ra := { fullLab.ra with readCount := 255 } }
    Works .lab s ∧ PortTakes s ∧ s.ra.store[s.ra.readCount]? = some (.day ⟨212, .zero, none⟩) ∧
    15 ≤ (withOut s 15).fp.out.length ∧ PortTakes (withOut s 15) ∧ (withOut s 14).fp.out.length < 15 ∧
    fullLab.ra.store.length ≤ fullLab.ra.readCount ∧ field [0, 255] 0 2 ≤ s.ra.readCount ∧
    s.ra.readCount < field [1, 0] 0 2 := by decide +kernel

theorem test_witness_StoredRecordsStayUntilReleased :
    isReset (.read []) = false ∧ (∃ t, exec (.read []) fullLab = .next t) ∧
    (.read [] : Instr) ≠ .configure [] ∧ (.read [] : Instr) ≠ .restart [] ∧ (.read [] : Instr) ≠ .release [] :=
  ⟨by decide, ⟨_, rfl⟩, by decide, by decide, by decide⟩

theorem test_witness_MonitorsActivateAndEnd :
    (mon (run6 .mill) .scaleOver).mode = none ∧ (mon (run6 .mill) .carrierStall).mode ≠ none ∧
    (mon (run6 .mill) .carrierStall).mode ≠ some .off := by decide

theorem test_witness_BadRecordsAreCountedOrRefused :
    PortTakes (run6 .lab) ∧ (∀ n ∈ inboundCodes, n ≠ (0x80 : Byte).toNat) ∧ ¬ PortTakes (withOut (run6 .lab) 16) ∧
    asRecord (.read []) ≠ none ∧ (withOut (run6 .lab) 16).part.stationState ≠ .powerUp ∧
    (withOut (run6 .lab) 16).fp.out = .captured 0 :: List.replicate 15 (.captured 0) ∧
    60 < (61 : Byte).toNat ∧ (60 : Byte).toNat ≤ 60 ∧ (60 : Byte) ≠ 0 ∧ ([] : List Byte).length + 1 < 2 ∧
    2 ≤ ([1] : List Byte).length + 1 ∧ ((0x12 : Byte) + 0 + 0 + 0xEE).toNat = 0 ∧
    ((0x12 : Byte) + 0 + 0 + 0xED).toNat ≠ 0 ∧ ((0x80 : Byte) + 0 + 0 + 0x80).toNat = 0 ∧
    RecordKind.clear.code = (0x12 : Byte).toNat ∧ (∀ k ∈ RecordKind.all, k.code ≠ (0x80 : Byte).toNat) ∧
    ({ Wires.idle with rxd := [⟨0, serialBits 0xA5⟩] } : Wires).rxd = ⟨0, serialBits 0xA5⟩ :: [] ∧
    ((⟨1, serialBits 0xA5⟩ : SerialByte).wait ≠ 0 ∧
      readSerial (serialBits 0xA5) = some (0xA5, true) ∧ readSerial [true] = none) ∧
    (let late := { run6 .lab with fp := { FieldPort.reset with rx := .kind, gapTicks := 25001 } };
      late.pending = [] ∧ late.part.resetLow = false ∧ PortTakes late ∧ 25000 < late.fp.gapTicks) := by decide

theorem test_witness_RecordsAreRefusedInOrder :
    let strap : State := { at6 .lab .mute with
      part := { (at6 .lab .mute).part with muteCause := .strap, role := none } }
    asRecord (.configure (zeros 7)) = some (.configure, zeros 7) ∧ PortTakes (run6 .lab) ∧
    (run6 .lab).part.stationState ≠ .config ∧ strap.part.stationState = .mute ∧ strap.part.muteCause = .strap ∧
    PortTakes strap ∧ asRecord (.assign []) = some (.assign, []) ∧ (run6 .lab).part.role ≠ some .tip ∧
    asRecord (.read (zeros 1)) = some (.read, zeros 1) ∧ (zeros 1).length ∉ [0] ∧
    (at6 .lab .config).part.stationState ≠ .run ∧ PortTakes (at6 .lab .config) := by decide

/-- A CONFIGURE of LAB: silence period 10 s, day 212, completion wait 120 min, not-crushed age 12 h. -/
def labConfigure : List Byte := [5, 10, 0, 212, 0, 120, 12]

theorem test_witness_ConfigureAndRestartEnterRun :
    (at6 .lab .config).part.stationState = .config ∧ (at6 .lab .config).part.role = some .lab ∧
    PortTakes (at6 .lab .config) ∧ labConfigure.length = 7 ∧ (∀ x ∈ settingsChecks .lab labConfigure, x.2 = true) ∧
    settingsChecks .lab [5, 10, 0, 0, 0, 120, 12] = [(0, true), (1, true)] ++ (2, false) :: [(3, true), (4, true)] ∧
    Works .lab (run6 .lab) ∧ (run6 .lab).part.settings = some ⟨10, settingsOf .lab⟩ ∧ PortTakes (run6 .lab) := by decide

theorem test_witness_StatusGivesThePart :
    PortTakes (run6 .mill) ∧ (zeros 0).length ≤ 1 ∧ ([2] : List Byte).length ≤ 1 ∧ 2 < (3 : Byte).toNat ∧
    15 ≤ (withOut (run6 .mill) 15).fp.out.length ∧ PortTakes (withOut (run6 .mill) 15) ∧
    (withOut (run6 .mill) 14).fp.out.length < 15 := by decide

theorem test_witness_ClearEndsLatchedMonitors :
    let s := setActive .carrierStall (run6 .mill)
    s.part.stationState = .run ∧ PortTakes s ∧ (mon s .carrierStall).latched = true ∧
    (mon s .carrierStall).condition = false ∧ MonitorsSound s :=
  ⟨by decide, by decide, by decide, by decide, fun i => by cases i <;> decide⟩

theorem test_witness_ClearFreshClearsTheFlag :
    let s := waiting .regularBeacon []
    PortTakes s ∧ s.part.stationState = .run ∧ (bodyInHand s).isSome = true ∧ PortTakes (at6 .lab .config) ∧
    (at6 .lab .config).part.stationState = .config ∧ PortTakes (at6 .lab .mute) ∧
    (at6 .lab .mute).part.stationState = .mute := by decide

theorem test_witness_WithdrawRemovesANotice :
    let s := waiting .queueHead (queueOf 8)
    Works .exit s ∧ PortTakes s ∧ field [8] 0 1 = 8 ∧ field [9] 0 1 = 9 ∧ field [0] 0 1 = 0 ∧
    s.li.queue = queueOf 7 ++ queued dayEnd212 false :: [] ∧ 8 = (queueOf 7).length + 1 ∧
    s.li.queue = [] ++ queued dayEnd212 false :: queueOf 7 ∧ s.li.inHand = some .queueHead ∧
    (queued dayEnd212 true).begun = true ∧ (run6 .exit).li.queue.length < 1 := by decide

theorem test_witness_NoticesReadBackAsSent :
    noticeOk 6 (.gross ⟨⟨65535, 6, 4095, false⟩, plate4471, 65535, 120000⟩) = true ∧
    noticeOk 0 (.tip ⟨⟨⟨0, 15, 1, true⟩, 3, 3⟩, 16777215, 65535, 65535, 65535, { LotFlags.clear with synthetic := true }, 255⟩) =
      true ∧
    sendingRole (Notice.gross ⟨key57, plate4471, 318, 31200⟩).kind.code = some .entry ∧ 65535 ≤ 65535 := by decide

theorem test_witness_FramesAndRecordsCheck :
    (zeros 48).length ≤ 48 ∧ 255 < 256 ∧ (zeros 60).length ≤ 60 ∧ crc16 [0, 1, 2, 0] ≠ 0 ∧
    (∀ k ∈ RecordKind.all, k.code ≠ (0xFF : Byte).toNat) ∧ (wireRecord 0x12 []).getLast? ≠ some 0xEF ∧
    (∀ g, (closeRecord .lapsed { newEntry key57 with gross := some ⟨plate4471, 318, 31200⟩ }).gross = some g →
      g.plate.length = 8) :=
  ⟨by decide, by decide, by decide, by decide +kernel, by decide, by decide, fun g h => by cases h; decide⟩

theorem test_witness_SummaryAndAlertFollowTheMonitors :
    let s := withLi (run6 .lab) fun li => { li with tx := .sending, frame := frameBytes [0x6A, 6, 9, 0], txTicks := 71 }
    s.li.tx = .sending ∧ s.li.frame[1]? = some 0xAA ∧ s.li.txTicks / 4 = (1 * 8 + 0) * 2 + 1 ∧
    (withOut (run6 .lab) 1).fp.out = .captured 0 :: [] ∧ (run6 .lab).part.stationState ≠ .powerUp ∧
    (OutItem.captured 0).wire[6]? = some 0x6D ∧ 1797 * 24 / 625 = 6 * 10 + 9 ∧
    (OutItem.captured 0).wire.length * 10 ≤ 1823 * 24 / 625 := by decide +kernel

end Sys2Proof.Tests
end

section
/-! PROOFS. CLEAR-FRESH (R42): when R184 lets the record through, what it leaves, and the fresh flag of header byte 0. -/

namespace Sys2Proof.Machine

/-! ### The fresh flag of a frame (Table 2-1) -/

/-- Bit 0 of the source byte is the fresh flag, whatever the role code: the code stands at bit 1 and up (Table 2-1). -/
@[simp] theorem sourceByte_getLsbD_zero (station : StationNo) (role : Nat) (fresh : Bool) :
    (sourceByte station role fresh).getLsbD 0 = fresh := by
  have parity : (station.val * 16 + role * 2 + flagBit 0 fresh) % 2 = flagBit 0 fresh := by
    cases fresh <;> simp [flagBit] <;> omega
  rw [sourceByte, BitVec.getLsbD_ofNat, Nat.testBit_zero, parity]
  cases fresh <;> rfl

/-- Whatever frame is in hand, its body begins with the source byte of the part as it stands (R4, R14, R17). -/
theorem bodyInHand_head {s : State} {body : List Byte} (h : bodyInHand s = some body) :
    ∃ rest, body = sourceByte s.part.station ((s.part.role.map roleCode).getD 0) s.part.fresh :: rest := by
  unfold bodyInHand at h
  split at h
  case h_1 => exact ⟨_, (Option.some.inj h).symm⟩
  case h_2 => exact ⟨_, (Option.some.inj h).symm⟩
  case h_3 =>
    split at h
    · exact ⟨_, (Option.some.inj h).symm⟩
    · cases h
  case h_4 => cases h

/-! ### CLEAR-FRESH -/

/-- No step of R184 refuses an empty CLEAR-FRESH in CONFIG or RUN (R42, Tables 2-5 and 10-1). -/
theorem refusal_clearFresh_none {p : List Byte} {s : State} (hp : p.length = 0)
    (hs : s.part.stationState = .config ∨ s.part.stationState = .run) : refusal .clearFresh p s = none := by
  rcases hs with hs | hs <;> simp [refusal, servedBy, lengthOk, stateServes, hp, hs]

/-- In MUTE an empty CLEAR-FRESH is refused: at step 3 of R184 for the cause STRAP, at step 6 for the others. -/
theorem refusal_clearFresh_mute {p : List Byte} {s : State} (hp : p.length = 0) (hs : s.part.stationState = .mute) :
    refusal .clearFresh p s = some .wrongState := by
  by_cases hc : s.part.muteCause = .strap <;> simp [refusal, servedBy, lengthOk, stateServes, hp, hs, hc]

theorem exec_clearFresh_accepted {p : List Byte} {s : State} (ht : PortTakes s) (hr : refusal .clearFresh p s = none) :
    exec (.clearFresh p) s =
      .next { s with part := { s.part with fresh := false }, fp := repliedTo .clearFresh .accepted s } := by
  change execClearFresh p s = _
  rw [execClearFresh, decideRecord_own ht hr]
  rfl

theorem exec_clearFresh_refused {p : List Byte} {s : State} {code : ReplyCode} (ht : PortTakes s)
    (hr : refusal .clearFresh p s = some code) :
    exec (.clearFresh p) s = .next { s with fp := repliedTo .clearFresh code s } := by
  change execClearFresh p s = _
  rw [execClearFresh, decideRecord_refused ht hr]

/-- Settles O56: R184 lets the record through in CONFIG and RUN only, and a frame's first byte carries the flag of the
part at the start of its attempt. -/
theorem clearFreshClearsTheFlag : Obligations.ClearFreshClearsTheFlag := by
  intro p s ht hp cleared
  refine ⟨fun hs => ⟨exec_clearFresh_accepted ht (refusal_clearFresh_none hp hs), rfl, fun body hb => ?_⟩,
    fun hs => exec_clearFresh_refused ht (refusal_clearFresh_mute hp hs)⟩
  obtain ⟨rest, hbody⟩ := bodyInHand_head hb
  exact ⟨_, rest, hbody, sourceByte_getLsbD_zero ..⟩

end Sys2Proof.Machine
end

section
/-! PROOFS. The day balance of cane (R114, R115): what each operation on the lot list does to the mass it holds, and
that the crush line stays balanced under every operation, command and step. -/

namespace Sys2Proof.Machine

/-! ### The mass of a lot list -/

/-- Lots that have left the mouth hold no mass (R94, R105). -/
def DrainedEmpty (lots : List Lot) : Prop := ∀ l ∈ lots, l.state = .draining → l.massRem = 0

/-- The kg that the lots of a list still hold, whatever their state. -/
def listMass (lots : List Lot) : Nat := (lots.map (·.massRem)).sum

@[simp] theorem listMass_nil : listMass [] = 0 := rfl

@[simp] theorem listMass_cons (l : Lot) (lots : List Lot) : listMass (l :: lots) = l.massRem + listMass lots := by
  simp [listMass]

@[simp] theorem listMass_append (xs ys : List Lot) : listMass (xs ++ ys) = listMass xs + listMass ys := by
  simp [listMass]

theorem drainedEmpty_cons {l : Lot} {lots : List Lot} :
    DrainedEmpty (l :: lots) ↔ (l.state = .draining → l.massRem = 0) ∧ DrainedEmpty lots := by
  simp [DrainedEmpty]

theorem drainedEmpty_append {xs ys : List Lot} : DrainedEmpty (xs ++ ys) ↔ DrainedEmpty xs ∧ DrainedEmpty ys := by
  simp [DrainedEmpty, or_imp, forall_and]

/-- Leaving out lots that are draining leaves the mass of a list as it is. -/
theorem listMass_filter {keep : Lot → Bool} (hk : ∀ l, keep l = false → l.state = .draining) {lots : List Lot}
    (hd : DrainedEmpty lots) : listMass (lots.filter keep) = listMass lots := by
  induction lots with
  | nil => rfl
  | cons l lots ih =>
    obtain ⟨hl, hlots⟩ := drainedEmpty_cons.1 hd
    cases hkeep : keep l with
    | true => simp [hkeep, ih hlots]
    | false => simp [hkeep, ih hlots, hl (hk l hkeep)]

/-- The on-carrier mass of R114 leaves out the draining lots, which hold nothing. -/
theorem onCarrierMass_eq_listMass {lots : List Lot} (hd : DrainedEmpty lots) : onCarrierMass lots = listMass lots :=
  listMass_filter (by simp) hd

/-! ### The lot found, changed and inserted -/

/-- No lot of the key: the list stays. -/
theorem updateLot_of_findLot_none {k : LotKey} {lots : List Lot} (h : findLot k lots = none) (f : Lot → Lot) :
    updateLot k f lots = lots := by
  induction lots with
  | nil => rfl
  | cons l lots ih =>
    obtain ⟨hl, hlots⟩ : l.lot ≠ k ∧ findLot k lots = none := by simpa [findLot] using h
    simp [updateLot, hl, ih hlots]

/-- The lot found is the one changed; the lots before and after it stay. -/
theorem updateLot_of_findLot_some {k : LotKey} {lots : List Lot} {l : Lot} (h : findLot k lots = some l) :
    ∃ xs ys, lots = xs ++ l :: ys ∧ ∀ f, updateLot k f lots = xs ++ f l :: ys := by
  induction lots with
  | nil => cases h
  | cons x lots ih =>
    by_cases hx : x.lot = k
    · obtain rfl : x = l := by simpa [findLot, hx] using h
      exact ⟨[], lots, rfl, fun f => by simp [updateLot, hx]⟩
    · obtain ⟨xs, ys, rfl, hf⟩ := ih (by simpa [findLot, hx] using h)
      exact ⟨x :: xs, ys, rfl, fun f => by simp [updateLot, hx, hf]⟩

/-- The first lot of part 1 of a key is also the first lot of its own lot key (R109). -/
theorem findLot_of_find_partOne {key : Key} {lots : List Lot} {l : Lot}
    (h : lots.find? (fun x => decide (x.lot.key = key) && x.lot.m == 1) = some l) : findLot l.lot lots = some l := by
  obtain ⟨hl, xs, ys, rfl, hxs⟩ := List.find?_eq_some_iff_append.1 h
  refine List.find?_eq_some_iff_append.2 ⟨by simp, xs, ys, rfl, fun x hx => ?_⟩
  have hne : x.lot ≠ l.lot := fun he => by simpa [he, hl] using hxs x hx
  simp [hne]

theorem insertLot_perm (l : Lot) (lots : List Lot) : (insertLot l lots).Perm (l :: lots) := by
  induction lots with
  | nil => exact .refl _
  | cons x lots ih =>
    unfold insertLot
    split
    · exact .refl _
    · exact (ih.cons x).trans (.swap l x lots)

theorem listMass_insertLot (l : Lot) (lots : List Lot) : listMass (insertLot l lots) = l.massRem + listMass lots := by
  rw [← listMass_cons]
  exact ((insertLot_perm l lots).map _).sum_eq

theorem drainedEmpty_insertLot {l : Lot} {lots : List Lot} (hl : l.state = .draining → l.massRem = 0)
    (hd : DrainedEmpty lots) : DrainedEmpty (insertLot l lots) :=
  fun x hx => drainedEmpty_cons.2 ⟨hl, hd⟩ x ((insertLot_perm l lots).mem_iff.1 hx)

/-! ### A lot and its portion (R105) -/

theorem Lot.portion_le (l : Lot) : l.portion ≤ l.massRem := by
  unfold Lot.portion
  split
  · exact le_rfl
  · exact Nat.div_le_self ..

/-- "When S_rem is 1, the portion is the whole of M_rem" (R105): a lot that drains has given all it held. -/
theorem Lot.afterPortion_drained (l : Lot) (h : l.afterPortion.state = .draining) : l.afterPortion.massRem = 0 := by
  have hs : l.spanRem ≤ 1 := by
    by_contra hs
    simp [Lot.afterPortion, hs] at h
  simp [Lot.afterPortion, Lot.portion, hs]

/-! ### A balanced crush line -/

/-- The balance of R115 over the mass of the whole list, in which draining lots hold nothing. -/
structure CaneBalanced (c : CrushLine) : Prop where
  drained : DrainedEmpty c.lots
  balance : c.entered + c.carriedIn + c.corrections = c.crushed + BitVec.ofNat 32 (listMass c.lots) + c.writtenOff

theorem caneBalanced_iff (s : State) : CaneBalanced s.cl ↔ CaneBalance s ∧ DrainedLotsEmpty s := by
  constructor
  · rintro ⟨hd, hb⟩
    exact ⟨by rw [CaneBalance, onCarrierMass_eq_listMass hd, hb], hd⟩
  · rintro ⟨hb, hd⟩
    exact ⟨hd, by rw [← onCarrierMass_eq_listMass hd, hb]⟩

theorem caneBalanced_reset : CaneBalanced .reset := ⟨by simp [DrainedEmpty, CrushLine.reset], by decide⟩

namespace CaneBalanced

variable {c : CrushLine}

/-- A change of the lot found keeps the balance when crushed and corrections take up what its mass changes by. -/
theorem update (hb : CaneBalanced c) {k : LotKey} {l : Lot} (hl : findLot k c.lots = some l) {f : Lot → Lot}
    {crushed corrections : Kg32} (hd : (f l).state = .draining → (f l).massRem = 0)
    (hm : crushed + BitVec.ofNat 32 (f l).massRem + c.corrections =
      c.crushed + BitVec.ofNat 32 l.massRem + corrections) :
    CaneBalanced { c with lots := updateLot k f c.lots, crushed := crushed, corrections := corrections } := by
  obtain ⟨xs, ys, hlots, hupdate⟩ := updateLot_of_findLot_some hl
  obtain ⟨hdrained, hbalance⟩ := hb
  rw [hlots] at hdrained hbalance
  obtain ⟨hxs, -, hys⟩ := by simpa only [drainedEmpty_append, drainedEmpty_cons] using hdrained
  refine ⟨?_, ?_⟩
  · simp only [hupdate, drainedEmpty_append, drainedEmpty_cons]
    exact ⟨hxs, hd, hys⟩
  · simp only [hupdate, listMass_append, listMass_cons, BitVec.ofNat_add] at hbalance ⊢
    linear_combination hbalance - hm

/-- A change of lots that leaves their state and their mass alone keeps the balance. -/
theorem update_same (hb : CaneBalanced c) (k : LotKey) {f : Lot → Lot}
    (hf : ∀ l, (f l).state = l.state ∧ (f l).massRem = l.massRem) :
    CaneBalanced { c with lots := updateLot k f c.lots } := by
  cases hl : findLot k c.lots with
  | none => rwa [updateLot_of_findLot_none hl]
  | some l =>
    obtain ⟨hstate, hmass⟩ := hf l
    refine hb.update hl (fun h => ?_) (by rw [hmass])
    exact hmass.trans (hb.drained l (List.mem_of_find?_eq_some hl) (hstate.symm.trans h))

theorem foldl_update_same {α : Type} (hb : CaneBalanced c) (key : α → LotKey) {f : α → Lot → Lot}
    (hf : ∀ a l, (f a l).state = l.state ∧ (f a l).massRem = l.massRem) (as : List α) :
    CaneBalanced { c with lots := as.foldl (fun lots a => updateLot (key a) (f a) lots) c.lots } := by
  induction as generalizing c with
  | nil => exact hb
  | cons a as ih => exact ih (hb.update_same (key a) (hf a))

/-- A new lot brings its mass into the day (R102). -/
theorem enter (hb : CaneBalanced c) {l : Lot} (hl : l.state = .draining → l.massRem = 0) :
    CaneBalanced { c with lots := insertLot l c.lots, entered := c.entered + BitVec.ofNat 32 l.massRem } := by
  refine ⟨drainedEmpty_insertLot hl hb.drained, ?_⟩
  simp only [listMass_insertLot, BitVec.ofNat_add]
  linear_combination hb.balance

/-- Lots that leave the list drained take no mass with them (R107). -/
theorem filter (hb : CaneBalanced c) {keep : Lot → Bool} (hk : ∀ l, keep l = false → l.state = .draining) :
    CaneBalanced { c with lots := c.lots.filter keep } :=
  ⟨fun l hl => hb.drained l (List.mem_of_mem_filter hl), by rw [listMass_filter hk hb.drained, hb.balance]⟩

/-- A mass entered and written off at once (R100). -/
theorem writeOff (hb : CaneBalanced c) (kg : Kg32) :
    CaneBalanced { c with entered := c.entered + kg, writtenOff := c.writtenOff + kg } :=
  ⟨hb.drained, by linear_combination hb.balance⟩

/-- The balance does not speak of the pending nets. -/
theorem pendingNets (hb : CaneBalanced c) (nets : List PendingNet) : CaneBalanced { c with pendingNets := nets } :=
  ⟨hb.drained, hb.balance⟩

/-- A day begins with the on-carrier mass carried in and every other counter zero (R116). -/
theorem zero (hb : CaneBalanced c) :
    CaneBalanced { c with
      entered := 0, corrections := 0, crushed := 0, writtenOff := 0
      carriedIn := BitVec.ofNat 32 (onCarrierMass c.lots) } :=
  ⟨hb.drained, by simp [onCarrierMass_eq_listMass hb.drained]⟩

/-! ### The juice attributor: credits and releases -/

variable {s : State}

theorem creditLots (hb : CaneBalanced c) (dest : CreditTo) (cs : List Credit) :
    CaneBalanced { c with lots := Machine.creditLots dest cs c.lots } :=
  hb.foldl_update_same Credit.lot (f := fun cr => Lot.credit dest cr.credit)
    (fun _ _ => by cases dest <;> exact ⟨rfl, rfl⟩) cs

theorem countDown (hb : CaneBalanced c) (shares : List Share) :
    CaneBalanced { c with lots := Machine.countDown shares c.lots } :=
  hb.foldl_update_same Share.lot (f := fun _ l => { l with outstanding := l.outstanding - 1 })
    (fun _ _ => ⟨rfl, rfl⟩) shares

theorem attributeCane (hb : CaneBalanced s.cl) (j : Nat) (shares : List Share) :
    CaneBalanced (attributeCane j shares s).cl := by
  unfold Machine.attributeCane
  dsimp only
  split
  · split
    · simpa using hb
    · exact CaneBalanced.creditLots (by simpa using hb) .estimated _
  · exact CaneBalanced.creditLots (by simpa using hb) .measured _

theorem releaseLots (hb : CaneBalanced s.cl) : CaneBalanced (releaseLots s).cl := by
  have hcl : (Machine.releaseLots s).cl = { s.cl with lots := s.cl.lots.filter fun l => !l.released } :=
    foldl_view (fun t : State => t.cl) _ (fun t l => by simp) _ _
  rw [hcl]
  exact hb.filter (by simp +contextual [Lot.released])

theorem attribution (hb : CaneBalanced s.cl) (j : Nat) (number : BitVec 32) :
    CaneBalanced (attribution j number s).cl := by
  have hshares (shares : List Share) :
      CaneBalanced (if shareSum shares = 0 then unallocate j s else Machine.attributeCane j shares s).cl := by
    split
    · simpa using hb
    · exact hb.attributeCane j shares
  unfold Machine.attribution
  split
  · simpa using hb
  · dsimp only
    split
    · exact hshares _
    · exact releaseLots ((hshares _).countDown _)

theorem closePeriod (hb : CaneBalanced s.cl) (forced : Bool) : CaneBalanced (closePeriod forced s).cl := by
  simpa [Machine.closePeriod] using attribution (by simpa using hb) _ _

/-! ### The crush line: portions at the mouth, entries, corrections, the day end -/

theorem roomForShare (hb : CaneBalanced s.cl) (k : LotKey) : CaneBalanced (roomForShare k s).cl := by
  unfold Machine.roomForShare
  split
  · exact hb.closePeriod true
  · exact hb

/-- What a lot gives at the mouth, crushed takes (R105). -/
theorem portion (hb : CaneBalanced c) {k : LotKey} {l : Lot} (hl : findLot k c.lots = some l) {f : Lot → Lot}
    (hstate : (f l).state = l.afterPortion.state) (hmass : (f l).massRem = l.massRem - l.portion) :
    CaneBalanced { c with crushed := c.crushed + BitVec.ofNat 32 l.portion, lots := updateLot k f c.lots } := by
  have hsplit : BitVec.ofNat 32 l.massRem = BitVec.ofNat 32 (l.massRem - l.portion) + BitVec.ofNat 32 l.portion := by
    rw [← BitVec.ofNat_add, Nat.sub_add_cancel l.portion_le]
  refine hb.update hl (fun h => hmass.trans (l.afterPortion_drained (hstate.symm.trans h))) ?_
  rw [hmass, hsplit]
  ring

theorem givePortion (hb : CaneBalanced s.cl) (k : LotKey) : CaneBalanced (givePortion k s).cl := by
  have hroom := hb.roomForShare k
  unfold Machine.givePortion
  dsimp only
  split
  · exact hroom
  next hl => exact hroom.portion hl (by split <;> rfl) (by split <;> rfl)

theorem advanceMouth (hb : CaneBalanced s.cl) (p : Position) : CaneBalanced (advanceMouth p s).cl :=
  List.foldlRecOn (motive := fun t : State => CaneBalanced t.cl) (s.cl.lots.filter (Lot.covers p)) _ hb
    fun _ ht l _ => ht.givePortion l.lot

theorem crushPositions (hb : CaneBalanced s.cl) (k : LotKey) (n : Nat) : CaneBalanced (crushPositions k n s).cl := by
  induction n generalizing s with
  | zero => exact hb
  | succ n ih => exact ih (hb.givePortion k)

theorem placeLot (hb : CaneBalanced s.cl) (n : TipNotice) (mass : Nat) (corrected : Bool) :
    CaneBalanced (placeLot n mass corrected s).cl := by
  unfold Machine.placeLot
  dsimp only
  split
  · simpa [Machine.writeOff] using hb.writeOff _
  · split
    · exact crushPositions (hb.enter (by simp [newLot])) _ _
    · exact hb.enter (by simp [newLot])

theorem takeTip (hb : CaneBalanced s.cl) (n : TipNotice) : CaneBalanced (takeTip n s).cl := by
  unfold Machine.takeTip
  split
  · simpa using hb
  · split
    · refine placeLot ?_ n _ true
      exact hb.pendingNets _
    · exact hb.placeLot n _ false

theorem enterPendingNet (hb : CaneBalanced s.cl) (key : Key) (net : Nat) :
    CaneBalanced (enterPendingNet key net s).cl := by
  unfold Machine.enterPendingNet
  dsimp only
  split
  · exact hb.pendingNets _
  · split
    · simpa using hb.pendingNets _
    · exact hb.pendingNets _

/-- Corrections take up the difference that a NET makes to its lot (R110 to R112). -/
theorem takeNetAtMill (hb : CaneBalanced s.cl) (n : NetNotice) : CaneBalanced (takeNetAtMill n s).cl := by
  unfold Machine.takeNetAtMill
  split
  next l hl =>
    have hfound := findLot_of_find_partOne hl
    refine hb.update hfound (fun h => ?_) (by ring)
    cases hstate : l.state with
    | onCarrier => simp [Lot.corrected, hstate] at h
    | crushing => simp [Lot.corrected, hstate] at h
    | draining => simpa [Lot.corrected, hstate] using hb.drained l (List.mem_of_find?_eq_some hfound) hstate
  · split
    · exact hb
    · exact hb.enterPendingNet _ _

theorem takeDayEndAtMill (hb : CaneBalanced s.cl) (n : DayEndNotice) : CaneBalanced (takeDayEndAtMill n s).cl := by
  simpa [Machine.takeDayEndAtMill, zeroDay] using hb.zero

/-! ### A frame received -/

theorem takeDayEndNotice (hb : CaneBalanced s.cl) (n : DayEndNotice) : CaneBalanced (takeDayEndNotice n s).cl := by
  have hday : CaneBalanced (if s.part.role = some .lab then s else adoptDay n.newDay s).cl := by
    split <;> simpa using hb
  unfold Machine.takeDayEndNotice
  dsimp only
  split
  · exact hday.takeDayEndAtMill n
  · exact hday

theorem takeNet (hb : CaneBalanced s.cl) (n : NetNotice) : CaneBalanced (takeNet n s).cl := by
  unfold Machine.takeNet
  split
  · simpa using hb
  · split
    · exact hb.takeNetAtMill n
    · split <;> simpa using hb

theorem actOn (hb : CaneBalanced s.cl) (sender : Role) (r : Received) : CaneBalanced (actOn sender r s).cl := by
  unfold Machine.actOn
  split
  case h_3 => exact hb.takeNet _
  case h_4 =>
    split
    · exact hb.takeTip _
    · exact hb
  case h_6 => exact hb.takeDayEndNotice _
  case h_1 | h_2 => simpa using hb
  case h_5 | h_7 => split <;> simpa using hb

theorem checkNotice (hb : CaneBalanced s.cl) (h : FrameHeader) (sender : Role) (kind : Nat) (p : List Byte) :
    CaneBalanced (checkNotice h sender kind p s).cl := by
  unfold Machine.checkNotice
  split
  · simpa using hb
  · split
    · exact hb.actOn sender _
    · simpa using hb

theorem acceptFrame (hb : CaneBalanced s.cl) (h : FrameHeader) (sender : Role) (kind : Nat) (p : List Byte) :
    CaneBalanced (acceptFrame h sender kind p s).cl := by
  unfold Machine.acceptFrame
  dsimp only
  split
  · simpa using hb
  · exact checkNotice (by simpa using hb) h sender kind p

theorem passFrame (hb : CaneBalanced s.cl) (h : FrameHeader) (sender : Role) (kind : Nat) (p : List Byte) :
    CaneBalanced (passFrame h sender kind p s).cl := by
  unfold Machine.passFrame
  split
  case h_1 | h_2 => exact hb
  case h_3 => exact hb.acceptFrame h sender kind p
  case h_4 =>
    split
    · simpa using hb
    · exact hb.acceptFrame h sender kind p

theorem receive (hb : CaneBalanced s.cl) (h : FrameHeader) (kind : Nat) (p : List Byte) :
    CaneBalanced (receive h kind p s).cl := by
  unfold Machine.receive
  split
  · split
    · exact passFrame (by simpa using hb) h _ kind p
    · simpa using hb
  · exact hb

/-! ### A step of the carrier -/

theorem forwardStep (hb : CaneBalanced s.cl) : CaneBalanced (forwardStep s).cl := by
  unfold Machine.forwardStep netForwardStep
  dsimp only
  split
  · split
    · simpa using hb
    · exact advanceMouth (by simpa using hb) _
  · split <;> simpa using hb

end CaneBalanced

/-! ### Commands -/

/-- Entry to RUN starts the crush line afresh (R39). -/
theorem enterRun_cl (c : Settings) (s : State) : (enterRun c s).cl = .reset := by
  unfold enterRun
  dsimp only
  split <;> simp [startUnits]

/-- A record keeps what its owning rule and its refusals keep. -/
theorem decideRecord_keeps {P : State → Prop} {k : RecordKind} {p : List Byte} {own : State → State} {s : State}
    (hs : P s) (ho : P (own (hunting s))) (hr : ∀ code, P (replyTo k code (hunting s))) :
    P (decideRecord k p own s) := by
  unfold decideRecord
  split
  · split
    · exact hr _
    · exact ho
  · exact hs

theorem ownConfigure_caneBalanced {s : State} (hb : CaneBalanced s.cl) (p : List Byte) :
    CaneBalanced (ownConfigure p s).cl := by
  unfold ownConfigure
  split
  · exact hb
  · split
    · simpa using hb
    · simpa [enterRun_cl] using caneBalanced_reset

theorem takeRestart_caneBalanced {s : State} (hb : CaneBalanced s.cl) : CaneBalanced (takeRestart s).cl := by
  unfold takeRestart
  dsimp only
  split
  · simpa [enterRun_cl] using caneBalanced_reset
  · exact hb

/-- The commands that can change the crush line: the resets, the receptions, an entry to RUN, a STEP, a period close. -/
def reachesCrushLine : Instr → Bool
  | .configure _ | .restart _ | .stepPulse _ | .periodTimerExpiry | .pauseLimitExpiry => true
  | c => isReset c || (asFrame c).isSome

theorem exec_crushLine_unchanged {c : Instr} {s t : State} (hc : reachesCrushLine c = false)
    (h : exec c s = .next t) : t.cl = s.cl := by
  cases c with
  | powerUpEnd => simp [execPowerUpEnd_frame h]
  | lineQuiet => simp [execLineQuiet_frame h]
  | attemptStart => simp [execAttemptStart_frame h]
  | attemptComplete => simp [execAttemptComplete_frame h]
  | collision => simp [execCollision_frame h]
  | collisionMarkEnd => simp [execCollisionMarkEnd_frame h]
  | backoffEnd => simp [execBackoffEnd_frame h]
  | frameError => simp [execFrameError_frame h]
  | startedBeaconDue => simp [execStartedBeaconDue_frame h]
  | regularBeaconDue => simp [execRegularBeaconDue_frame h]
  | peerSilenceExpiry => simp [execPeerSilenceExpiry_frame h]
  | peerAbsenceTimeout => simp [execPeerAbsenceTimeout_frame h]
  | recordGapTimeout => simp [execRecordGapTimeout_frame h]
  | recordDiscard => simp [execRecordDiscard_frame h]
  | recordChecksumError => simp [execRecordChecksumError_frame h]
  | recordUnknownKind => simp [execRecordUnknownKind_frame h]
  | statusRequest => simp [execStatusRequest_frame h]
  | clear => simp [execClear_frame h]
  | clearFresh => simp [execClearFresh_frame h]
  | vehicle => simp [execVehicle_frame h]
  | weight => simp [execWeight_frame h]
  | withdraw => simp [execWithdraw_frame h]
  | assign => simp [execAssign_frame h]
  | disarm => simp [execDisarm_frame h]
  | analysis => simp [execAnalysis_frame h]
  | dayEnd => simp [execDayEnd_frame h]
  | read => simp [execRead_frame h]
  | release => simp [execRelease_frame h]
  | outboundItemSent => simp [execOutboundItemSent_frame h]
  | openEntryExpiry => simp [execOpenEntryExpiry_frame h]
  | awaitingEntryExpiry => simp [execAwaitingEntryExpiry_frame h]
  | tippingActive => simp [execTippingActive_frame h]
  | minTipTimeExpiry => simp [execMinTipTimeExpiry_frame h]
  | tippingRelease => simp [execTippingRelease_frame h]
  | speedSaturation => simp [execSpeedSaturation_frame h]
  | stallQuietInterval => simp [execStallQuietInterval_frame h]
  | runContactActive => simp [execRunContactActive_frame h]
  | runContactRelease => simp [execRunContactRelease_frame h]
  | startAllowanceExpiry => simp [execStartAllowanceExpiry_frame h]
  | flowPulse => simp [execFlowPulse_frame h]
  | completionTimerExpiry => simp [execCompletionTimerExpiry_frame h]
  | notCrushedAgeExpiry => simp [execNotCrushedAgeExpiry_frame h]
  | summaryWaitExpiry => simp [execSummaryWaitExpiry_frame h]
  | lineActive => simp [execLineActive_frame h]
  | _ => cases hc

/-- The three resets clear the crush line (R43). -/
theorem exec_reset_cl {c : Instr} {s t : State} (hc : isReset c = true) (h : exec c s = .next t) : t.cl = .reset := by
  cases c with
  | powerOn | pinReset | resetnFall => cases h; rfl
  | _ => cases hc

theorem exec_caneBalanced {c : Instr} {s t : State} (hb : CaneBalanced s.cl) (h : exec c s = .next t) :
    CaneBalanced t.cl := by
  by_cases hreset : isReset c = true
  · exact exec_reset_cl hreset h ▸ caneBalanced_reset
  cases hframe : asFrame c with
  | some f =>
    obtain ⟨header, kind, payload⟩ := f
    obtain rfl : receive header kind payload s = t := by simpa [exec_asFrame s hframe] using h
    exact hb.receive header kind payload
  | none =>
    by_cases hc : reachesCrushLine c = false
    · exact exec_crushLine_unchanged hc h ▸ hb
    cases c with
    | configure p =>
      cases h
      exact decideRecord_keeps (P := fun u => CaneBalanced u.cl) hb (ownConfigure_caneBalanced (by simpa using hb) p)
        fun _ => by simpa using hb
    | restart p =>
      cases h
      exact decideRecord_keeps (P := fun u => CaneBalanced u.cl) hb
        (by simpa using takeRestart_caneBalanced (by simpa using hb)) fun _ => by simpa using hb
    | stepPulse forward =>
      simp only [exec, execStepPulse] at h
      split at h <;> cases h
      · cases forward with
        | true => simpa using hb.forwardStep
        | false => simpa using hb
      · exact hb
    | periodTimerExpiry =>
      simp only [exec, execPeriodTimerExpiry] at h
      split at h <;> cases h
      · exact hb.closePeriod false
      · exact hb
    | pauseLimitExpiry =>
      simp only [exec, execPauseLimitExpiry] at h
      split at h <;> cases h
      · exact hb.closePeriod false
      · exact hb
    | _ => simp [reachesCrushLine, isReset, asFrame] at hc hreset hframe

/-! ### Steps -/

theorem advance_cl (s : State) : (advance s).cl = s.cl := by
  obtain ⟨_, _, _, _, _, _, _, _, _, h⟩ := advance_spec s
  rw [h]
  simp

/-- The passing of time leaves the crush line alone. -/
theorem tick_cl (s : State) : (tick s).cl = s.cl := by
  unfold tick
  split
  · rfl
  · split
    · exact advance_cl s
    · rfl

theorem step_caneBalanced {s t : State} (hb : CaneBalanced s.cl) (h : step s = .next t) : CaneBalanced t.cl := by
  unfold step at h
  split at h
  next c rest _ => exact exec_caneBalanced (s := { s with pending := rest }) hb h
  · cases h
    rwa [tick_cl]

/-- Settles O9: the balance over the mass of the whole lot list holds at reset and is kept by every operation that
reaches the crush line. -/
theorem caneBalanceHolds : Obligations.CaneBalanceHolds := by
  refine ⟨(caneBalanced_iff .reset).1 caneBalanced_reset, fun s t hbalance hdrained hstep => ?_⟩
  exact (caneBalanced_iff t).1 (step_caneBalanced ((caneBalanced_iff s).2 ⟨hbalance, hdrained⟩) hstep)

end Sys2Proof.Machine
end

section
/-! PROOFS. The day balance of juice (R142): what a close does with J, and that every operation, command and step that
reaches the juice attributor keeps the balance. -/

namespace Sys2Proof.Machine

/-! ### The day counters of juice -/

/-- The three day counters that R142 balances: juice measured, credited as measured, and unallocated. -/
def JuiceAttributor.day (ja : JuiceAttributor) : Kg32 × Kg32 × Kg32 :=
  (ja.measured, ja.creditedMeasured, ja.unallocated)

theorem JuiceAttributor.day_eq_iff {a b : JuiceAttributor} :
    a.day = b.day ↔
      a.measured = b.measured ∧ a.creditedMeasured = b.creditedMeasured ∧ a.unallocated = b.unallocated := by
  simp [JuiceAttributor.day]

theorem JuiceBalance.of_day {s t : State} (hb : JuiceBalance s) (h : t.ja.day = s.ja.day) : JuiceBalance t := by
  obtain ⟨hmeasured, hcredited, hunallocated⟩ := JuiceAttributor.day_eq_iff.1 h
  rw [JuiceBalance, hmeasured, hcredited, hunallocated, hb]

/-! ### Monitors and time: the period's pause and its counts, never the day -/

@[simp] theorem syncPause_day (i : MonitorId) (s : State) : (syncPause i s).ja.day = s.ja.day := by
  unfold syncPause; split <;> rfl

@[simp] theorem setActive_day (i : MonitorId) (s : State) : (setActive i s).ja.day = s.ja.day := by simp [setActive]

@[simp] theorem setInactive_day (i : MonitorId) (s : State) : (setInactive i s).ja.day = s.ja.day := by
  simp [setInactive]

@[simp] theorem activate_day (i : MonitorId) (s : State) : (activate i s).ja.day = s.ja.day := by
  unfold activate; split <;> simp

@[simp] theorem finish_day (i : MonitorId) (s : State) : (finish i s).ja.day = s.ja.day := by
  unfold finish; split <;> simp

@[simp] theorem conditionStarts_day (i : MonitorId) (s : State) : (conditionStarts i s).ja.day = s.ja.day := by
  simp [conditionStarts]

@[simp] theorem conditionEnds_day (i : MonitorId) (s : State) : (conditionEnds i s).ja.day = s.ja.day := by
  simp [conditionEnds]

@[simp] theorem observe_day (i : MonitorId) (s : State) : (observe i s).ja.day = s.ja.day := by
  unfold observe; dsimp only; (repeat' split) <;> simp

@[simp] theorem endingEvent_day (i : MonitorId) (s : State) : (endingEvent i s).ja.day = s.ja.day := by
  unfold endingEvent; split <;> simp

@[simp] theorem stallObservation_day (s : State) : (stallObservation s).ja.day = s.ja.day := by
  simp [stallObservation]

@[simp] theorem stallEnds_day (s : State) : (stallEnds s).ja.day = s.ja.day := by simp [stallEnds]

@[simp] theorem measurePulse_day (s : State) : (measurePulse s).ja.day = s.ja.day := by
  unfold measurePulse liveObservation
  dsimp only
  (repeat' split) <;> simp

@[simp] theorem reverseStep_day (s : State) : (reverseStep s).ja.day = s.ja.day := by
  unfold reverseStep; split <;> simp

@[simp] theorem takeClear_day (s : State) : (takeClear s).ja.day = s.ja.day := by
  have hone (t : State) (i : MonitorId) : (clearOne t i).ja.day = t.ja.day := by
    unfold clearOne; split <;> simp
  exact (foldl_view (·.ja.day) zeroCount (by simp) _ _).trans (foldl_view (·.ja.day) clearOne hone _ _)

@[simp] theorem JuiceAttributor.ms_day (periodMs : Nat) (ja : JuiceAttributor) : (ja.ms periodMs).day = ja.day := by
  unfold JuiceAttributor.ms; (repeat' split) <;> rfl

@[simp] theorem countMs_day (s : State) : (countMs s).ja.day = s.ja.day := by
  unfold countMs countRoleMs; dsimp only; (repeat' split) <;> simp

@[simp] theorem countInputs_day (s : State) : (countInputs s).ja.day = s.ja.day := by
  unfold countInputs; (repeat' split) <;> rfl

@[simp] theorem count_day (s : State) : (count s).ja.day = s.ja.day := by
  unfold count; dsimp only; (repeat' split) <;> simp

/-- The passing of time leaves the day counters of juice alone. -/
theorem tick_day (s : State) : (tick s).ja.day = s.ja.day := by
  unfold tick
  split
  · rfl
  · split
    · obtain ⟨frx, gap, _, _, _, w0, _, c0, _, h⟩ := advance_spec s
      rw [h]
      exact count_day { s with fp := { s.fp with rx := frx, gapTicks := gap }, wires := w0, pending := s.pending ++ c0 }
    · rfl

/-! ### The period close: where J goes -/

/-- From `a` to `b`, `j` kg joined exactly one term on the right of R142, and juice measured stood. -/
structure Allots (j : Kg32) (a b : JuiceAttributor) : Prop where
  measured : b.measured = a.measured
  term : (b.creditedMeasured = a.creditedMeasured + j ∧ b.unallocated = a.unallocated) ∨
    (b.creditedMeasured = a.creditedMeasured ∧ b.unallocated = a.unallocated + j)

theorem Allots.of_day {j : Kg32} {a b c : JuiceAttributor} (h : Allots j a b) (hday : c.day = b.day) : Allots j a c := by
  obtain ⟨hmeasured, hcredited, hunallocated⟩ := JuiceAttributor.day_eq_iff.1 hday
  exact ⟨hmeasured.trans h.measured, by rw [hcredited, hunallocated]; exact h.term⟩

theorem unallocate_allots (j : Nat) (s : State) : Allots (BitVec.ofNat 32 j) s.ja (unallocate j s).ja :=
  ⟨rfl, .inr ⟨rfl, rfl⟩⟩

theorem creditMeasured_allots (j : Nat) (shares : List Share) (s : State) :
    Allots (BitVec.ofNat 32 j) s.ja (creditMeasured j shares s).ja :=
  ⟨rfl, .inl ⟨rfl, rfl⟩⟩

/-- The estimate credits no measured juice: J itself stays unallocated (R138). -/
theorem creditEstimated_allots (j : Nat) (shares : List Share) (s : State) :
    Allots (BitVec.ofNat 32 j) s.ja (creditEstimated j shares s).ja :=
  ⟨rfl, .inr ⟨rfl, rfl⟩⟩

theorem attributeCane_allots (j : Nat) (shares : List Share) (s : State) :
    Allots (BitVec.ofNat 32 j) s.ja (attributeCane j shares s).ja := by
  have hobserved : (setMon .meterSilent (observeJuice j (mon s .meterSilent)) s).ja = s.ja := by simp
  unfold attributeCane
  rw [← hobserved]
  dsimp only
  split
  · split
    · exact unallocate_allots ..
    · exact creditEstimated_allots ..
  · exact creditMeasured_allots ..

theorem attribution_allots (j : Nat) (number : BitVec 32) (s : State) :
    Allots (BitVec.ofNat 32 j) s.ja (attribution j number s).ja := by
  unfold attribution
  split
  case h_1 => exact unallocate_allots j s
  case h_2 b _ =>
    have hpath : Allots (BitVec.ofNat 32 j) s.ja
        (if shareSum b.shares = 0 then unallocate j s else attributeCane j b.shares s).ja := by
      split
      · exact unallocate_allots j s
      · exact attributeCane_allots j b.shares s
    dsimp only
    split
    · exact hpath.of_day rfl
    · exact hpath.of_day (by simp [JuiceAttributor.day])

@[simp] theorem openPeriod_day (s : State) : (openPeriod s).ja.day = s.ja.day := rfl

/-- After the attribution, a close leaves the day counters of juice alone (R131). -/
theorem closePeriod_day (forced : Bool) (s : State) :
    (closePeriod forced s).ja.day =
      (attribution (settledGrams s / 1000) (s.ja.k - BitVec.ofNat 32 (millCfg s).lag) (settlePeriod forced s)).ja.day := by
  simp [closePeriod]

/-- A close measures J and allots the same J (R126, R142). -/
theorem closePeriod_allots (forced : Bool) (s : State) :
    let j : Kg32 := BitVec.ofNat 32 (settledGrams s / 1000)
    Allots j { s.ja with measured := s.ja.measured + j } (closePeriod forced s).ja := by
  obtain ⟨hmeasured, hterm⟩ := (attribution_allots (settledGrams s / 1000) _ (settlePeriod forced s)).of_day
    (closePeriod_day forced s)
  exact ⟨hmeasured, hterm⟩

theorem juiceBalance_reset : JuiceBalance .reset := by decide

namespace JuiceBalance

variable {s : State}

theorem closePeriod (hb : JuiceBalance s) (forced : Bool) : JuiceBalance (closePeriod forced s) := by
  obtain ⟨hmeasured, hterm⟩ := closePeriod_allots forced s
  rw [JuiceBalance, hmeasured]
  rcases hterm with ⟨hcredited, hunallocated⟩ | ⟨hcredited, hunallocated⟩
  · linear_combination hb - hcredited - hunallocated
  · linear_combination hb - hcredited - hunallocated

/-! ### The crush line: a ninth share forces a close (R106), a day end zeroes every counter (R143) -/

theorem givePortion (hb : JuiceBalance s) (k : LotKey) : JuiceBalance (givePortion k s) := by
  have hroom : JuiceBalance (roomForShare k s) := by
    unfold roomForShare
    split
    · exact hb.closePeriod true
    · exact hb
  unfold Machine.givePortion
  dsimp only
  split
  · exact hroom
  · exact hroom.of_day rfl

theorem advanceMouth (hb : JuiceBalance s) (p : Position) : JuiceBalance (advanceMouth p s) :=
  List.foldlRecOn (motive := JuiceBalance) (s.cl.lots.filter (Lot.covers p)) _ hb fun _ ht l _ => ht.givePortion l.lot

theorem crushPositions (hb : JuiceBalance s) (k : LotKey) (n : Nat) : JuiceBalance (crushPositions k n s) := by
  induction n generalizing s with
  | zero => exact hb
  | succ n ih => exact ih (hb.givePortion k)

theorem placeLot (hb : JuiceBalance s) (n : TipNotice) (mass : Nat) (corrected : Bool) :
    JuiceBalance (placeLot n mass corrected s) := by
  unfold Machine.placeLot
  dsimp only
  split
  · exact hb.of_day (by simp)
  · split
    · exact crushPositions (hb.of_day (by simp)) _ _
    · exact hb.of_day (by simp)

theorem takeTip (hb : JuiceBalance s) (n : TipNotice) : JuiceBalance (takeTip n s) := by
  unfold Machine.takeTip
  split
  · exact hb.of_day (by simp)
  · split
    · refine placeLot ?_ n _ true
      exact hb.of_day rfl
    · exact hb.placeLot n _ false

theorem takeDayEndNotice (hb : JuiceBalance s) (n : DayEndNotice) : JuiceBalance (takeDayEndNotice n s) := by
  unfold Machine.takeDayEndNotice
  dsimp only
  split
  · simp [JuiceBalance, takeDayEndAtMill, zeroDay]
  · exact hb.of_day (by split <;> simp)

theorem forwardStep (hb : JuiceBalance s) : JuiceBalance (forwardStep s) := by
  unfold Machine.forwardStep netForwardStep
  dsimp only
  split
  · split
    · exact hb.of_day (by simp)
    · refine advanceMouth ?_ _
      exact hb.of_day rfl
  · split <;> exact hb.of_day (by simp)

/-! ### A frame received -/

theorem actOn (hb : JuiceBalance s) (sender : Role) (r : Received) : JuiceBalance (actOn sender r s) := by
  unfold Machine.actOn
  split
  case h_4 =>
    split
    · exact hb.takeTip _
    · exact hb
  case h_6 => exact hb.takeDayEndNotice _
  case h_1 | h_2 | h_3 => exact hb.of_day (by simp)
  case h_5 | h_7 => exact hb.of_day (by split <;> simp)

theorem acceptFrame (hb : JuiceBalance s) (h : FrameHeader) (sender : Role) (kind : Nat) (p : List Byte) :
    JuiceBalance (acceptFrame h sender kind p s) := by
  unfold Machine.acceptFrame checkNotice
  dsimp only
  split
  · exact hb.of_day (by simp)
  · split
    · exact hb.of_day (by simp)
    · split
      · exact actOn (hb.of_day (by simp)) sender _
      · exact hb.of_day (by simp)

theorem receive (hb : JuiceBalance s) (h : FrameHeader) (kind : Nat) (p : List Byte) :
    JuiceBalance (receive h kind p s) := by
  have htaken : JuiceBalance (frameTaken s) := hb.of_day (by simp)
  unfold Machine.receive passFrame
  split
  · split
    · split
      case h_1 | h_2 => exact htaken
      case h_3 => exact htaken.acceptFrame h _ kind p
      case h_4 =>
        split
        · exact htaken.of_day (by simp)
        · exact htaken.acceptFrame h _ kind p
    · exact htaken.of_day (by simp)
  · exact hb

end JuiceBalance

/-! ### Commands -/

/-- Entry to RUN starts the juice attributor afresh (R39, R118). -/
theorem enterRun_ja (c : Settings) (s : State) : (enterRun c s).ja = startedJuice c := by
  unfold enterRun
  dsimp only
  split <;> simp [startUnits]

theorem enterRun_juiceBalance (c : Settings) (s : State) : JuiceBalance (enterRun c s) := by
  rw [JuiceBalance, enterRun_ja]
  unfold startedJuice
  split <;> rfl

theorem JuiceBalance.ownConfigure {s : State} (hb : JuiceBalance s) (p : List Byte) :
    JuiceBalance (ownConfigure p s) := by
  unfold Machine.ownConfigure
  split
  · exact hb
  · split
    · exact hb.of_day (by simp)
    next role _ _ _ => exact (enterRun_juiceBalance (readSettings role p) s).of_day (by simp)

theorem JuiceBalance.takeRestart {s : State} (hb : JuiceBalance s) : JuiceBalance (takeRestart s) := by
  unfold Machine.takeRestart
  dsimp only
  split
  · exact enterRun_juiceBalance ..
  · exact hb.of_day rfl

/-- The commands that cannot change the lot list leave the day counters of juice alone too. -/
theorem exec_day_unchanged {c : Instr} {s t : State} (hc : reachesCrushLine c = false)
    (h : exec c s = .next t) : t.ja.day = s.ja.day := by
  cases c with
  | powerUpEnd => simp [execPowerUpEnd_frame h]
  | lineQuiet => simp [execLineQuiet_frame h]
  | attemptStart => simp [execAttemptStart_frame h]
  | attemptComplete => simp [execAttemptComplete_frame h]
  | collision => simp [execCollision_frame h]
  | collisionMarkEnd => simp [execCollisionMarkEnd_frame h]
  | backoffEnd => simp [execBackoffEnd_frame h]
  | frameError => simp [execFrameError_frame h]
  | startedBeaconDue => simp [execStartedBeaconDue_frame h]
  | regularBeaconDue => simp [execRegularBeaconDue_frame h]
  | peerSilenceExpiry => simp [execPeerSilenceExpiry_frame h]
  | peerAbsenceTimeout => simp [execPeerAbsenceTimeout_frame h]
  | recordGapTimeout => simp [execRecordGapTimeout_frame h]
  | recordDiscard => simp [execRecordDiscard_frame h]
  | recordChecksumError => simp [execRecordChecksumError_frame h]
  | recordUnknownKind => simp [execRecordUnknownKind_frame h]
  | statusRequest => simp [execStatusRequest_frame h]
  | clear p =>
    cases h
    exact decideRecord_view (·.ja.day) _ p _ s (by simp) (by simp)
  | clearFresh => simp [execClearFresh_frame h]
  | vehicle => simp [execVehicle_frame h]
  | weight => simp [execWeight_frame h]
  | withdraw => simp [execWithdraw_frame h]
  | assign => simp [execAssign_frame h]
  | disarm => simp [execDisarm_frame h]
  | analysis => simp [execAnalysis_frame h]
  | dayEnd => simp [execDayEnd_frame h]
  | read => simp [execRead_frame h]
  | release => simp [execRelease_frame h]
  | outboundItemSent => simp [execOutboundItemSent_frame h]
  | openEntryExpiry => simp [execOpenEntryExpiry_frame h]
  | awaitingEntryExpiry => simp [execAwaitingEntryExpiry_frame h]
  | tippingActive => simp [execTippingActive_frame h]
  | minTipTimeExpiry => simp [execMinTipTimeExpiry_frame h]
  | tippingRelease => simp [execTippingRelease_frame h]
  | speedSaturation =>
    simp only [exec, execSpeedSaturation] at h
    split at h <;> cases h
    · split <;> simp
    · rfl
  | stallQuietInterval =>
    simp only [exec, execStallQuietInterval] at h
    split at h <;> cases h
    · simp
    · rfl
  | runContactActive => simp [execRunContactActive_frame h]
  | runContactRelease =>
    simp only [exec, execRunContactRelease] at h
    split at h <;> cases h
    · simp
    · rfl
  | startAllowanceExpiry =>
    simp only [exec, execStartAllowanceExpiry] at h
    split at h <;> cases h
    · simp
    · rfl
  | flowPulse =>
    simp only [exec, execFlowPulse] at h
    split at h
    · split at h <;> cases h
      · rfl
      · exact conditionStarts_day ..
    · cases h; rfl
  | completionTimerExpiry => simp [execCompletionTimerExpiry_frame h]
  | notCrushedAgeExpiry => simp [execNotCrushedAgeExpiry_frame h]
  | summaryWaitExpiry => simp [execSummaryWaitExpiry_frame h]
  | lineActive => simp [execLineActive_frame h]
  | _ => cases hc

theorem exec_juiceBalance {c : Instr} {s t : State} (hb : JuiceBalance s) (h : exec c s = .next t) :
    JuiceBalance t := by
  cases hframe : asFrame c with
  | some f =>
    obtain ⟨header, kind, payload⟩ := f
    obtain rfl : receive header kind payload s = t := by simpa [exec_asFrame s hframe] using h
    exact hb.receive header kind payload
  | none =>
    by_cases hc : reachesCrushLine c = false
    · exact hb.of_day (exec_day_unchanged hc h)
    cases c with
    | powerOn | pinReset | resetnFall =>
      cases h
      exact juiceBalance_reset
    | configure p =>
      cases h
      exact decideRecord_keeps hb (JuiceBalance.ownConfigure (hb.of_day (by simp)) p) fun _ => hb.of_day (by simp)
    | restart p =>
      cases h
      refine decideRecord_keeps hb ?_ fun _ => hb.of_day (by simp)
      exact JuiceBalance.of_day (JuiceBalance.takeRestart (s := hunting s) (hb.of_day (by simp))) (by simp)
    | stepPulse forward =>
      simp only [exec, execStepPulse] at h
      split at h <;> cases h
      · cases forward with
        | true => exact hb.forwardStep.of_day (by simp)
        | false => exact hb.of_day (by simp)
      · exact hb
    | periodTimerExpiry =>
      simp only [exec, execPeriodTimerExpiry] at h
      split at h <;> cases h
      · exact hb.closePeriod false
      · exact hb
    | pauseLimitExpiry =>
      simp only [exec, execPauseLimitExpiry] at h
      split at h <;> cases h
      · exact hb.closePeriod false
      · exact hb
    | _ => simp [reachesCrushLine, isReset, asFrame] at hc hframe

/-! ### Steps -/

theorem step_juiceBalance {s t : State} (hb : JuiceBalance s) (h : step s = .next t) : JuiceBalance t := by
  unfold step at h
  split at h
  next c rest _ => exact exec_juiceBalance (s := { s with pending := rest }) hb h
  · cases h
    exact hb.of_day (tick_day s)

/-- Settles O10: only resets, entries to RUN, period closes and day ends touch the three counters, and a close allots
the J that it measures. -/
theorem juiceBalanceHolds : Obligations.JuiceBalanceHolds := by
  refine ⟨juiceBalance_reset, fun s t hb h => step_juiceBalance hb h, fun forced s => ?_⟩
  obtain ⟨hmeasured, hterm⟩ := closePeriod_allots forced s
  exact ⟨hmeasured, hterm⟩

end Sys2Proof.Machine
end

section
/-! PROOFS. The reference extraction (R140): what sets it, and how far a measured attribution moves it. -/

namespace Sys2Proof.Machine

/-- The distance of R140, whichever of the two is the larger. -/
theorem max_sub_min_eq (r x : Nat) : max r x - min r x = if r ≤ x then x - r else r - x := by
  split <;> omega

/-- "1 when the difference is below the window": the step before `asymmetric` is looked at. -/
def fullStep (m : MillSettings) (r x : Nat) : Nat := if max r x - min r x < m.window then 1 else m.step

theorem fullStep_pos {m : MillSettings} (hm : 1 ≤ m.step) (r x : Nat) : 1 ≤ fullStep m r x := by
  unfold fullStep; split <;> omega

/-- Only a lower r is taken more slowly, and only with `asymmetric` set (R140). -/
theorem rrefStep_eq (m : MillSettings) (r x : Nat) :
    rrefStep m r x = if r < x ∧ m.asymmetric = true then max (fullStep m r x / 2) 1 else fullStep m r x := by
  rw [rrefStep, fullStep, max_sub_min_eq]

theorem moveRref_self (m : MillSettings) (x : Nat) : moveRref m x x = x := by simp [moveRref]

theorem moveRref_up (m : MillSettings) {r x : Nat} (h : x < r) : moveRref m r x = min r (x + fullStep m r x) := by
  simp [moveRref, rrefStep_eq, h, Nat.not_lt.2 h.le]

theorem moveRref_down (m : MillSettings) {r x : Nat} (h : r < x) :
    moveRref m r x = max r (x - if m.asymmetric = true then max (fullStep m r x / 2) 1 else fullStep m r x) := by
  simp [moveRref, rrefStep_eq, h]

/-- R_ref ends between the value it had and r (R140: it never passes r). -/
theorem moveRref_le_max (m : MillSettings) (r x : Nat) : moveRref m r x ≤ max r x := by
  rcases lt_trichotomy r x with h | rfl | h
  · rw [moveRref_down m h]; omega
  · simp [moveRref_self]
  · rw [moveRref_up m h]; omega

theorem takeDayEndAtMill_rref (n : DayEndNotice) (s : State) : (takeDayEndAtMill n s).ja.rref = s.ja.rref := by
  simp [takeDayEndAtMill, zeroDay]

/-- Settles O38, by the side of the reference extraction on which r lies. -/
theorem referenceExtractionMovesToward : Obligations.ReferenceExtractionMovesToward := by
  refine ⟨fun c m s hc => ?_, takeDayEndAtMill_rref, fun m r x hstep hr hx => ?_⟩
  · rw [enterRun_ja, startedJuice, hc]
    rfl
  · have hpos : 1 ≤ fullStep m r x := fullStep_pos hstep r x
    refine ⟨(moveRref_le_max m r x).trans (max_le hr hx), ?_, fun h => ?_, fun h ha => ?_, fun h ha => ?_⟩
    · rintro rfl
      exact moveRref_self m r
    · exact ⟨moveRref_up m h, by rw [moveRref_up m h]; omega⟩
    · have hy : moveRref m r x = max r (x - fullStep m r x) := by simp [moveRref_down m h, ha]
      exact ⟨hy, by rw [hy]; omega⟩
    · have hy : moveRref m r x = max r (x - max (fullStep m r x / 2) 1) := by simp [moveRref_down m h, ha]
      exact ⟨hy, by rw [hy]; omega⟩

end Sys2Proof.Machine
end

section
/-! PROOFS. Apportionment (R132, R133) and what its credits and a breakdown's shares make of the lots (R130, R134, R138). -/

namespace Sys2Proof.Machine

/-! ### Changes of a distinct lot list -/

/-- No lot key stands twice (R95). -/
def DistinctLots (lots : List Lot) : Prop := lots.Pairwise fun a b => a.lot ≠ b.lot

theorem distinctLots_cons {l : Lot} {lots : List Lot} :
    DistinctLots (l :: lots) ↔ (∀ x ∈ lots, l.lot ≠ x.lot) ∧ DistinctLots lots := List.pairwise_cons

theorem DistinctLots.map {lots : List Lot} (h : DistinctLots lots) {f : Lot → Lot} (hf : ∀ l, (f l).lot = l.lot) :
    DistinctLots (lots.map f) := by
  simpa [DistinctLots, List.pairwise_map, hf] using h

/-- In a distinct list the first lot of a key is the only one. -/
theorem updateLot_eq_map {lots : List Lot} (h : DistinctLots lots) (k : LotKey) (f : Lot → Lot) :
    updateLot k f lots = lots.map fun l => if l.lot = k then f l else l := by
  induction lots with
  | nil => rfl
  | cons l lots ih =>
    obtain ⟨hl, hlots⟩ := distinctLots_cons.1 h
    by_cases hk : l.lot = k
    · have hrest : lots.map (fun x => if x.lot = k then f x else x) = lots :=
        (List.map_congr_left fun x hx => if_neg fun hxk => hl x hx (hk.trans hxk.symm)).trans (List.map_id lots)
      simp [updateLot, hk, hrest]
    · simp [updateLot, hk, ih hlots]

/-- Changes by lot key, one after another, come to each lot on its own. -/
theorem foldl_updateLot {α : Type} (key : α → LotKey) (f : α → Lot → Lot) (hf : ∀ a l, (f a l).lot = l.lot) (as : List α)
    {lots : List Lot} (h : DistinctLots lots) :
    as.foldl (fun ls a => updateLot (key a) (f a) ls) lots =
      lots.map fun l => as.foldl (fun l a => if l.lot = key a then f a l else l) l := by
  induction as generalizing lots with
  | nil => simp
  | cons a as ih =>
    rw [List.foldl_cons, updateLot_eq_map h, ih (h.map fun l => by split <;> simp [hf]), List.map_map]
    rfl

/-! ### Credits of a lot (R134, R138) -/

@[simp] theorem Lot.credit_lot (dest : CreditTo) (kg : Nat) (l : Lot) : (l.credit dest kg).lot = l.lot := by
  cases dest <;> rfl

/-- Two credits in a row are one of their sum: a figure that has saturated stays. -/
theorem Lot.credit_credit (dest : CreditTo) (a b : Nat) (l : Lot) :
    (l.credit dest a).credit dest b = l.credit dest (a + b) := by
  have hsaturates (x : Nat) : min (min (x + a) Limits.credited + b) Limits.credited = min (x + (a + b)) Limits.credited := by
    omega
  cases dest <;> simp [Lot.credit, hsaturates]

/-- What the credits of a list bring to one lot, in kg. -/
def creditFor (k : LotKey) (cs : List Credit) : Nat := ((cs.filter (·.lot = k)).map (·.credit)).sum

theorem creditFor_cons (k : LotKey) (c : Credit) (cs : List Credit) :
    creditFor k (c :: cs) = if c.lot = k then c.credit + creditFor k cs else creditFor k cs := by
  unfold creditFor
  split <;> simp_all

theorem creditFor_of_none {k : LotKey} {cs : List Credit} (h : ¬ cs.any (·.lot = k) = true) : creditFor k cs = 0 := by
  have hnone : cs.filter (·.lot = k) = [] := by simpa using h
  simp [creditFor, hnone]

theorem foldl_credit (dest : CreditTo) (cs : List Credit) (l : Lot) :
    cs.foldl (fun l c => if l.lot = c.lot then l.credit dest c.credit else l) l =
      if cs.any (·.lot = l.lot) then l.credit dest (creditFor l.lot cs) else l := by
  induction cs generalizing l with
  | nil => rfl
  | cons c cs ih =>
    rw [List.foldl_cons, ih, creditFor_cons]
    by_cases hc : c.lot = l.lot
    · by_cases hany : cs.any (·.lot = l.lot) = true
      · simp [hc, hany, Lot.credit_credit]
      · simp [hc, hany, creditFor_of_none hany]
    · simp [hc, Ne.symm hc]

theorem creditLots_eq_map (dest : CreditTo) (cs : List Credit) {lots : List Lot} (h : DistinctLots lots) :
    creditLots dest cs lots =
      lots.map fun l => if cs.any (·.lot = l.lot) then l.credit dest (creditFor l.lot cs) else l := by
  rw [creditLots, foldl_updateLot Credit.lot (fun c => Lot.credit dest c.credit) (by simp) cs h]
  simp [foldl_credit]

/-! ### Outstanding breakdowns of a lot (R130) -/

theorem foldl_outstanding (shares : List Share) (l : Lot) :
    shares.foldl (fun l sh => if l.lot = sh.lot then { l with outstanding := l.outstanding - 1 } else l) l =
      { l with outstanding := l.outstanding - (shares.filter (·.lot = l.lot)).length } := by
  induction shares generalizing l with
  | nil => rfl
  | cons sh shares ih =>
    rw [List.foldl_cons, ih]
    by_cases hsh : sh.lot = l.lot
    · simp [hsh, Nat.sub_sub, Nat.add_comm]
    · simp [hsh, Ne.symm hsh]

theorem countDown_eq_map (shares : List Share) {lots : List Lot} (h : DistinctLots lots) :
    countDown shares lots =
      lots.map fun l => { l with outstanding := l.outstanding - (shares.filter (·.lot = l.lot)).length } := by
  rw [countDown, foldl_updateLot Share.lot (fun _ l => { l with outstanding := l.outstanding - 1 }) (by simp) shares h]
  simp [foldl_outstanding]

/-! ### Lot order (R95, R133) -/

/-- The places of a distinct list rise along it. -/
theorem lotPlace_increases {lots : List Lot} (h : DistinctLots lots) :
    lots.Pairwise fun a b => lotPlace lots a.lot < lotPlace lots b.lot := by
  induction lots with
  | nil => exact .nil
  | cons l lots ih =>
    obtain ⟨hl, hlots⟩ := distinctLots_cons.1 h
    have hplace {x : Lot} (hx : x ∈ lots) : lotPlace (l :: lots) x.lot = lotPlace lots x.lot + 1 := by
      simp [lotPlace, List.findIdx_cons, hl x hx]
    refine List.pairwise_cons.2 ⟨fun x hx => ?_, (ih hlots).imp_of_mem fun ha hb hab => ?_⟩
    · rw [hplace hx]
      simp [lotPlace, List.findIdx_cons]
    · rw [hplace ha, hplace hb]
      exact Nat.succ_lt_succ hab

/-- The shares in the order in which their lots stand. -/
def sharesAsLotsStand (lots : List Lot) (shares : List Share) : List Share :=
  lots.filterMap fun l => shares.find? (·.lot = l.lot)

theorem mem_sharesAsLotsStand {lots : List Lot} {shares : List Share} (hshares : shares.Pairwise fun a b => a.lot ≠ b.lot)
    (hheld : ∀ sh ∈ shares, ∃ l ∈ lots, l.lot = sh.lot) (sh : Share) :
    sh ∈ sharesAsLotsStand lots shares ↔ sh ∈ shares := by
  unfold sharesAsLotsStand
  rw [List.mem_filterMap]
  constructor
  · rintro ⟨l, -, hfind⟩
    exact List.mem_of_find?_eq_some hfind
  · intro hsh
    obtain ⟨l, hl, hlot⟩ := hheld sh hsh
    refine ⟨l, hl, ?_⟩
    obtain ⟨xs, ys, rfl⟩ := List.append_of_mem hsh
    refine List.find?_eq_some_iff_append.2 ⟨by simp [hlot], xs, ys, rfl, fun x hx => ?_⟩
    have hne : x.lot ≠ sh.lot := (List.pairwise_append.1 hshares).2.2 x hx sh (by simp)
    simp [hlot, hne]

/-- The shares taken as the lots stand are sorted by place, strictly. -/
theorem sharesAsLotsStand_increases {lots : List Lot} (h : DistinctLots lots) (shares : List Share) :
    (sharesAsLotsStand lots shares).Pairwise fun a b => lotPlace lots a.lot < lotPlace lots b.lot := by
  refine List.pairwise_filterMap.2 ((lotPlace_increases h).imp fun hab x hx y hy => ?_)
  have hxlot := List.find?_some hx
  have hylot := List.find?_some hy
  simp_all

theorem inLotOrder_eq {lots : List Lot} {shares : List Share} (h : DistinctLots lots)
    (hshares : shares.Pairwise fun a b => a.lot ≠ b.lot) (hheld : ∀ sh ∈ shares, ∃ l ∈ lots, l.lot = sh.lot) :
    inLotOrder lots shares = sharesAsLotsStand lots shares := by
  have : Std.Total fun s t : Share => lotPlace lots s.lot ≤ lotPlace lots t.lot := ⟨fun _ _ => le_total ..⟩
  have : IsTrans Share fun s t => lotPlace lots s.lot ≤ lotPlace lots t.lot := ⟨fun _ _ _ => le_trans⟩
  have hstrict := sharesAsLotsStand_increases h shares
  have hperm : (sharesAsLotsStand lots shares).Perm shares :=
    (List.perm_ext_iff_of_nodup (hstrict.imp fun hlt he => by simp [he] at hlt)
      (hshares.imp fun hne he => hne (by rw [he]))).2 (mem_sharesAsLotsStand hshares hheld)
  have hinj {a b : Share} (ha : a ∈ sharesAsLotsStand lots shares) (hb : b ∈ sharesAsLotsStand lots shares)
      (hab : lotPlace lots a.lot = lotPlace lots b.lot) : a = b := by
    by_contra hne
    have : Std.Symm fun a b : Share => lotPlace lots a.lot ≠ lotPlace lots b.lot := ⟨fun _ _ => Ne.symm⟩
    exact (hstrict.imp fun h => ne_of_lt h).forall ha hb hne hab
  have hsorted : (inLotOrder lots shares).Perm (sharesAsLotsStand lots shares) :=
    (List.perm_insertionSort _ shares).trans hperm.symm
  exact hsorted.eq_of_pairwise (fun a b ha hb hle hge => hinj (hsorted.mem_iff.1 ha) hb (le_antisymm hle hge))
    (List.pairwise_insertionSort _ shares) (hstrict.imp le_of_lt)

/-! ### First credits and the leftover (R132) -/

/-- R132's division, summed: the first credits and the fractions together hold `a` times the shares. -/
theorem firstCredits_division (a d : Nat) (shares : List Share) :
    d * (shares.map fun sh => a * sh.mass / d).sum + (shares.map fun sh => a * sh.mass % d).sum = a * shareSum shares := by
  induction shares with
  | nil => rfl
  | cons sh shares ih =>
    have hdiv := Nat.div_add_mod (a * sh.mass) d
    simp only [shareSum, List.map_cons, List.sum_cons, Nat.mul_add] at ih ⊢
    omega

theorem firstCredits_fraction_lt {a : Nat} {shares : List Share} (hpos : 0 < shareSum shares) {c : Credit}
    (hc : c ∈ firstCredits a shares) : c.fraction < shareSum shares := by
  obtain ⟨sh, -, rfl⟩ := List.mem_map.1 hc
  exact Nat.mod_lt _ hpos

/-- "The leftover is A minus the sum of the first credits": what the fractions make up, and less than one per share. -/
theorem leftover_spec (a : Nat) (shares : List Share) (hpos : 0 < shareSum shares) :
    let cs := firstCredits a shares
    (cs.map (·.credit)).sum + leftover a cs = a ∧
    (cs.map (·.fraction)).sum = shareSum shares * leftover a cs ∧ leftover a cs < cs.length := by
  intro cs
  have hdivision : shareSum shares * (cs.map (·.credit)).sum + (cs.map (·.fraction)).sum = a * shareSum shares := by
    simpa [cs, firstCredits, Function.comp_def] using firstCredits_division a (shareSum shares) shares
  have hle : (cs.map (·.credit)).sum ≤ a :=
    Nat.le_of_mul_le_mul_left (by rw [Nat.mul_comm _ a]; omega) hpos
  have hfractions : (cs.map (·.fraction)).sum = shareSum shares * leftover a cs := by
    rw [leftover, Nat.mul_sub, Nat.mul_comm _ a]
    omega
  have hshort : (cs.map (·.fraction)).sum < shareSum shares * cs.length := by
    have hlength : 0 < cs.length := by
      refine List.length_pos_of_ne_nil fun hnil => ?_
      simp_all [cs, firstCredits, shareSum]
    calc (cs.map (·.fraction)).sum
        ≤ (cs.map (·.fraction)).length • (shareSum shares - 1) :=
          List.sum_le_card_nsmul _ _ fun f hf => by
            obtain ⟨c, hc, rfl⟩ := List.mem_map.1 hf
            exact Nat.le_sub_one_of_lt (firstCredits_fraction_lt hpos hc)
      _ = cs.length * (shareSum shares - 1) := by simp
      _ < cs.length * shareSum shares := Nat.mul_lt_mul_of_pos_left (Nat.sub_one_lt_of_lt hpos) hlength
      _ = shareSum shares * cs.length := Nat.mul_comm ..
  refine ⟨?_, hfractions, ?_⟩
  · rw [leftover]; omega
  · exact Nat.lt_of_mul_lt_mul_left (hfractions ▸ hshort)

/-! ### The leftover given out (R133) -/

theorem giveOut_credits (n : Nat) (cs : List Credit) :
    (giveOut n cs).map (·.credit) = (cs.take n).map (·.credit + 1) ++ (cs.drop n).map (·.credit) := by
  induction cs generalizing n with
  | nil => cases n <;> rfl
  | cons c cs ih =>
    cases n with
    | zero => rfl
    | succ n => simp [giveOut, ih]

/-- Whoever is given a kilogram, the lots and the fractions stand. -/
theorem giveOut_unchanged (n : Nat) (cs : List Credit) :
    (giveOut n cs).map (fun c => (c.lot, c.fraction)) = cs.map fun c => (c.lot, c.fraction) := by
  induction cs generalizing n with
  | nil => cases n <;> rfl
  | cons c cs ih =>
    cases n with
    | zero => rfl
    | succ n => simp [giveOut, ih]

theorem giveOut_sum {n : Nat} {cs : List Credit} (hn : n ≤ cs.length) :
    ((giveOut n cs).map (·.credit)).sum = (cs.map (·.credit)).sum + n := by
  induction cs generalizing n with
  | nil => simp_all [giveOut]
  | cons c cs ih =>
    cases n with
    | zero => rfl
    | succ n =>
      have htail := ih (Nat.le_of_succ_le_succ hn)
      simp only [giveOut, List.map_cons, List.sum_cons, htail]
      omega

/-- Where `n` is no more than the fractions make up, largest first, no credit with fraction 0 is given a kilogram. -/
theorem mem_of_mem_giveOut {d n : Nat} {cs : List Credit} (hsorted : cs.Pairwise fun c e => e.fraction ≤ c.fraction)
    (hlt : ∀ c ∈ cs, c.fraction < d) (hn : d * n ≤ (cs.map (·.fraction)).sum) {c : Credit} (hc : c ∈ giveOut n cs)
    (hzero : c.fraction = 0) : c ∈ cs := by
  induction cs generalizing n with
  | nil => cases n <;> exact hc
  | cons e cs ih =>
    cases n with
    | zero => exact hc
    | succ n =>
      obtain ⟨hfirst, htail⟩ := List.pairwise_cons.1 hsorted
      have hpos : 0 < e.fraction := by
        by_contra he
        have hzeros : ((e :: cs).map (·.fraction)).sum = 0 := by
          refine List.sum_eq_zero fun f hf => ?_
          obtain ⟨x, hx, rfl⟩ := List.mem_map.1 hf
          obtain rfl | hx := List.mem_cons.1 hx
          · omega
          · have := hfirst x hx
            omega
        rw [hzeros] at hn
        exact absurd hn (Nat.not_le.2 (Nat.mul_pos (Nat.zero_lt_of_lt (hlt e (by simp))) n.succ_pos))
      have hrest : d * n ≤ (cs.map (·.fraction)).sum := by
        have := hlt e (by simp)
        rw [List.map_cons, List.sum_cons, Nat.mul_succ] at hn
        omega
      obtain rfl | hmem := List.mem_cons.1 hc
      · exact absurd hzero hpos.ne'
      · exact List.mem_cons_of_mem _ (ih htail (fun x hx => hlt x (List.mem_cons_of_mem _ hx)) hrest hmem)

/-! ### The largest fractions first -/

theorem byFraction_perm (cs : List Credit) : (byFraction cs).Perm cs := List.perm_insertionSort ..

theorem byFraction_sorted (cs : List Credit) : (byFraction cs).Pairwise fun c e => e.fraction ≤ c.fraction := by
  have : Std.Total fun c e : Credit => e.fraction ≤ c.fraction := ⟨fun _ _ => le_total ..⟩
  have : IsTrans Credit fun c e => e.fraction ≤ c.fraction := ⟨fun _ _ _ hab hbc => hbc.trans hab⟩
  exact List.pairwise_insertionSort _ cs

/-- "Shares with equal fractions are taken in lot order": the sort is stable (R133). -/
theorem byFraction_stable (f : Nat) (cs : List Credit) :
    (byFraction cs).filter (·.fraction == f) = cs.filter (·.fraction == f) := by
  have hequal : (cs.filter (·.fraction == f)).Pairwise fun c e => e.fraction ≤ c.fraction :=
    List.pairwise_of_forall_mem_list fun c hc e he => by simp_all
  have hsub : (cs.filter (·.fraction == f)).Sublist ((byFraction cs).filter (·.fraction == f)) := by
    simpa [byFraction] using (List.sublist_insertionSort hequal List.filter_sublist).filter (·.fraction == f)
  exact (hsub.eq_of_length ((byFraction_perm cs).filter _).length_eq.symm).symm

/-- A credit as the statement writes it: lot, credit and fraction. -/
def Credit.asTriple (c : Credit) : LotKey × Nat × Nat := (c.lot, c.credit, c.fraction)

theorem filter_asTriple (f : Nat) (cs : List Credit) :
    (cs.map Credit.asTriple).filter (fun x => x.2.2 == f) = (cs.filter (·.fraction == f)).map Credit.asTriple := by
  simp [List.filter_map, Function.comp_def, Credit.asTriple]

/-- The credits of an apportionment: largest fractions first, the leftover to the first of them (R133). -/
theorem apportion_eq (a : Nat) (shares : List Share) :
    apportion a shares =
      giveOut (leftover a (firstCredits a shares)) (byFraction (firstCredits a shares)) := rfl

theorem apportion_sum (a : Nat) {shares : List Share} (hpos : 0 < shareSum shares) :
    ((apportion a shares).map (·.credit)).sum = a := by
  obtain ⟨hsum, -, hleft⟩ := leftover_spec a shares hpos
  have hperm := byFraction_perm (firstCredits a shares)
  rw [apportion_eq, giveOut_sum (hperm.length_eq ▸ hleft.le), (hperm.map _).sum_eq, hsum]

/-- An exact share of A is credited exactly: no kilogram of the leftover goes to a fraction of 0. -/
theorem apportion_exact_share {a : Nat} {shares : List Share} (hpos : 0 < shareSum shares) {c : Credit}
    (hc : c ∈ apportion a shares) (hzero : c.fraction = 0) : c ∈ firstCredits a shares := by
  obtain ⟨-, hfractions, -⟩ := leftover_spec a shares hpos
  have hperm := byFraction_perm (firstCredits a shares)
  refine hperm.mem_iff.1 (mem_of_mem_giveOut (byFraction_sorted _) (d := shareSum shares) (fun e he => ?_) ?_ hc hzero)
  · exact firstCredits_fraction_lt hpos (hperm.mem_iff.1 he)
  · rw [(hperm.map _).sum_eq, hfractions]

/-- Settles O37: the sort by fraction is a stable permutation, the fractions make up the leftover, and changes by lot
key come to each lot on its own. -/
theorem apportionmentIsExact : Obligations.ApportionmentIsExact := by
  refine ⟨?_, fun lots shares h hshares hheld => inLotOrder_eq h hshares hheld,
    fun cs shares lots h => ⟨creditLots_eq_map .measured cs h, creditLots_eq_map .estimated cs h, countDown_eq_map shares h⟩⟩
  intro a shares hpos total first out left
  have hfirst : first = (firstCredits a shares).map Credit.asTriple := by
    simp [first, total, firstCredits, Credit.asTriple, shareSum, Function.comp_def]
  have hleft : left = leftover a (firstCredits a shares) := by
    simp [left, hfirst, leftover, Credit.asTriple, Function.comp_def]
  have htotal : total = shareSum shares := rfl
  have hout : out = _ := apportion_eq a shares
  obtain ⟨-, hfractions, hshort⟩ := leftover_spec a shares hpos
  refine ⟨apportion_sum a hpos, ?_, ?_, ?_, fun c hc hzero => ?_⟩
  · simpa [hleft, firstCredits] using hshort
  · simpa [hfirst, hleft, htotal, Credit.asTriple, Function.comp_def] using hfractions
  · rw [hfirst, hleft, hout]
    refine ⟨(byFraction (firstCredits a shares)).map Credit.asTriple, (byFraction_perm _).map _,
      List.pairwise_map.2 (byFraction_sorted _), fun f => ?_, ?_, ?_⟩
    · rw [filter_asTriple, filter_asTriple, byFraction_stable]
    · simpa [Credit.asTriple, Function.comp_def] using giveOut_unchanged ..
    · simpa [Credit.asTriple, Function.comp_def, List.map_take, List.map_drop] using giveOut_credits ..
  · rw [hfirst]
    exact List.mem_map.2 ⟨c, apportion_exact_share hpos hc hzero, by rw [Credit.asTriple, hzero]⟩

end Sys2Proof.Machine
end

section
/-! PROOFS. Closing at LAB (R154 to R158, R166): where an entry stands in the table after it is put, when it is complete, and
what its closing makes of the table, the day totals and the record. -/

namespace Sys2Proof.Machine

/-! ### The entry put into the table (R146) -/

/-- The key stands in the table once, between `before` and `after`; or not at all, and the entry joins at the end. -/
def HasPlace (e : AsmEntry) (table before after : List AsmEntry) : Prop :=
  (∃ old, table = before ++ old :: after ∧ old.key = e.key ∧ table.Pairwise fun a b => a.key ≠ b.key) ∨
    (table = before ∧ after = [] ∧ ∀ x ∈ before, x.key ≠ e.key)

/-- Replacing by key leaves entries of other keys as they are. -/
theorem map_replace_eq_self {e : AsmEntry} {table : List AsmEntry} (h : ∀ x ∈ table, x.key ≠ e.key) :
    (table.map fun x => if x.key = e.key then e else x) = table :=
  (List.map_congr_left fun x hx => if_neg (h x hx)).trans (List.map_id table)

theorem putEntry_of_hasPlace {e : AsmEntry} {table before after : List AsmEntry} (h : HasPlace e table before after) :
    putEntry e table = before ++ e :: after := by
  obtain ⟨old, rfl, hkey, hdistinct⟩ | ⟨rfl, rfl, hnew⟩ := h
  · obtain ⟨-, htail, hbefore⟩ := List.pairwise_append.1 hdistinct
    have hb : ∀ x ∈ before, x.key ≠ e.key := fun x hx => hkey ▸ hbefore x hx old List.mem_cons_self
    have ha : ∀ x ∈ after, x.key ≠ e.key := fun x hx => hkey ▸ (List.rel_of_pairwise_cons htail hx).symm
    rw [putEntry, if_pos (by simp [hkey]), List.map_append, List.map_cons, if_pos hkey, map_replace_eq_self hb,
      map_replace_eq_self ha]
  · rw [putEntry, if_neg (by simpa using hnew)]

/-! ### A complete entry (R154) -/

theorem partsComplete_iff (e : AsmEntry) :
    partsComplete e = true ↔ ∃ m, e.m = some m ∧ ∀ i, 1 ≤ i → i ≤ m → i ∈ e.parts := by
  unfold partsComplete
  cases e.m with
  | none => simp
  | some m =>
    suffices hshift : (∀ i < m, i + 1 ∈ e.parts) ↔ ∀ i, 1 ≤ i → i ≤ m → i ∈ e.parts by simpa using hshift
    refine ⟨fun h i hpos hle => ?_, fun h i hi => h (i + 1) (by omega) hi⟩
    simpa [Nat.sub_add_cancel hpos] using h (i - 1) (by omega)

theorem entryComplete_iff (e : AsmEntry) :
    entryComplete e = true ↔
      (∃ m, e.m = some m ∧ ∀ i, 1 ≤ i → i ≤ m → i ∈ e.parts) ∧ e.net ≠ none ∧ e.analysis ≠ none := by
  simp only [entryComplete, Bool.and_eq_true, partsComplete_iff, Option.isSome_iff_ne_none, and_assoc]

/-! ### What a closing does to the state (R155, R166) -/

theorem applied_of_complete {e : AsmEntry} (h : entryComplete e = true) (s : State) :
    applied e s = closeEntry .complete e (setTable (putEntry e s.ra.table) s) := if_pos h

theorem applied_of_not_complete {e : AsmEntry} (h : ¬ entryComplete e = true) (s : State) :
    applied e s = setTable (putEntry e s.ra.table) s := if_neg h

/-- A closing puts the READY entry in its place, counts the record and makes it ready. -/
theorem closeEntry_of_hasPlace {e : AsmEntry} {s : State} {before after : List AsmEntry}
    (h : HasPlace e s.ra.table before after) (cause : CloseCause) :
    closeEntry cause e s = makeReady (.cons (closeRecord cause e)) (s.setRa { s.ra with
      table := before ++ { e with closed := some (closeRecord cause e) } :: after
      totals := s.ra.totals.count (closeRecord cause e) }) := by
  have hclosed : HasPlace { e with closed := some (closeRecord cause e) } s.ra.table before after := h
  rw [closeEntry, putEntry_of_hasPlace hclosed]

/-! ### The figures of a closed record (R155 to R158) -/

theorem massBasis_of_net {e : AsmEntry} {n : NetGroup} (h : e.net = some n) : massBasis e = n.net := by
  rw [massBasis, h]

theorem massBasis_of_no_net {e : AsmEntry} (h : e.net = none) : massBasis e = e.crushed := by
  rw [massBasis, h]

theorem partsMissing_iff (e : AsmEntry) :
    partsMissing e = true ↔ ∀ m, e.m = some m → e.parts.length < m := by
  unfold partsMissing
  cases e.m <;> simp

/-- The flags of a closing: three only when it is not COMPLETE (R155), the others from the entry alone. -/
theorem closeFlags_iff (cause : CloseCause) (e : AsmEntry) :
    ((closeFlags cause e).noAnalysis = true ↔ cause ≠ .complete ∧ e.analysis = none) ∧
    ((closeFlags cause e).noNet = true ↔ cause ≠ .complete ∧ e.net = none) ∧
    ((closeFlags cause e).partsMissing = true ↔ cause ≠ .complete ∧ ∀ m, e.m = some m → e.parts.length < m) ∧
    ((closeFlags cause e).millBasis = true ↔ e.net = none) ∧
    ((closeFlags cause e).basisZero = true ↔ massBasis e = 0) := by
  simp [closeFlags, partsMissing_iff]

/-- Without an analysis a record has no analysis group, and BRIX-ZERO is clear. -/
theorem closeRecord_of_no_analysis {e : AsmEntry} (h : e.analysis = none) (cause : CloseCause) :
    (closeRecord cause e).analysis = none ∧ (closeRecord cause e).flags.brixZero = false := by
  simp [closeRecord, closeFlags, h]

/-- With an analysis a record carries its figures, and BRIX-ZERO tells a brix of 0. -/
theorem closeRecord_of_analysis {e : AsmEntry} {a : Analysis} (h : e.analysis = some a) (cause : CloseCause) :
    (closeRecord cause e).analysis = some (analysisFigures e a) ∧
      ((closeRecord cause e).flags.brixZero = true ↔ a.brix = 0) := by
  simp [closeRecord, closeFlags, h]

/-- Settles O42: the entry's place in the table is that of its key, a complete entry is the one `entryComplete` tells, and
the record's figures come group by group. -/
theorem closingsMakeTheRecord : Obligations.ClosingsMakeTheRecord := by
  refine ⟨?_, ?_⟩
  · intro e s cause before after hplace kept complete r t
    have hput : putEntry e s.ra.table = before ++ e :: after := putEntry_of_hasPlace hplace
    have hkept : setTable (putEntry e s.ra.table) s = kept := by rw [hput]; rfl
    have hcomplete : entryComplete e = true ↔ complete := entryComplete_iff e
    refine ⟨fun hopen => ?_, fun hready => ?_, closeEntry_of_hasPlace hplace cause⟩
    · rw [applied_of_not_complete (hcomplete.not.2 hopen), hkept]
    · rw [applied_of_complete (hcomplete.2 hready), hkept]
  · intro cause e r juice perTonne
    obtain ⟨hnoAnalysis, hnoNet, hpartsMissing, hmillBasis, hbasisZero⟩ := closeFlags_iff cause e
    exact ⟨rfl, rfl, rfl, rfl, rfl, rfl, rfl, rfl, rfl, rfl, fun _ => massBasis_of_net, massBasis_of_no_net, hmillBasis,
      rfl, rfl, hbasisZero, fun h => closeRecord_of_no_analysis h cause, fun _ h => closeRecord_of_analysis h cause, rfl,
      hnoAnalysis, hnoNet, hpartsMissing⟩

end Sys2Proof.Machine
end

section
/-! PROOFS. CLEAR (R173, R174): what it does to one monitor, to the monitors taken in order of number, and to the three
counts. -/

namespace Sys2Proof.Machine

/-! ### Records of different monitors -/

/-- The number of a monitor is its place in the list of monitors (Table 2-9). -/
theorem MonitorId.all_getElem?_idx (i : MonitorId) : MonitorId.all[i.idx.val]? = some i := by cases i <;> rfl

theorem MonitorId.mem_all (i : MonitorId) : i ∈ MonitorId.all := List.mem_of_getElem? i.all_getElem?_idx

theorem MonitorId.idx_injective : Function.Injective MonitorId.idx := fun i j h =>
  Option.some.inj (by rw [← i.all_getElem?_idx, h, j.all_getElem?_idx])

theorem MonitorId.nodup_all : MonitorId.all.Nodup := by decide

theorem mon_setMon_of_ne {i j : MonitorId} (h : j ≠ i) (r : MonitorRec) (s : State) :
    mon (setMon i r s) j = mon s j := by
  have hidx : i.idx.val ≠ j.idx.val := fun heq => h (MonitorId.idx_injective (Fin.ext heq.symm))
  simp [mon, setMon, Vector.getElem_set_ne, hidx]

/-- A pass over a list of monitors whose step changes the record of the monitor at hand by `g`, and no other record,
changes by `g` exactly the records of the monitors in the list. -/
theorem mon_foldl {f : State → MonitorId → State} {g : MonitorRec → MonitorRec}
    (hsame : ∀ s i, mon (f s i) i = g (mon s i)) (hne : ∀ s i j, j ≠ i → mon (f s i) j = mon s j)
    {l : List MonitorId} (hl : l.Nodup) (s : State) (j : MonitorId) :
    mon (l.foldl f s) j = if j ∈ l then g (mon s j) else mon s j := by
  induction l generalizing s with
  | nil => rfl
  | cons i l ih =>
    obtain ⟨hi, hl⟩ := List.nodup_cons.1 hl
    rw [List.foldl_cons, ih hl]
    by_cases hj : j = i
    · subst hj; simp [hi, hsame]
    · simp [hj, hne]

/-! ### One monitor ends (R172) -/

@[simp] theorem mon_hunting (s : State) (j : MonitorId) : mon (hunting s) j = mon s j := rfl

@[simp] theorem mon_place (it : OutItem) (s : State) (j : MonitorId) : mon (place it s) j = mon s j :=
  mon_eq j (by simp)

@[simp] theorem mon_emit (ev : OutItem) (s : State) (j : MonitorId) : mon (emit ev s) j = mon s j :=
  mon_eq j (by simp)

@[simp] theorem mon_syncPause (i : MonitorId) (s : State) (j : MonitorId) : mon (syncPause i s) j = mon s j :=
  mon_eq j (by simp)

theorem mon_setInactive (i : MonitorId) (s : State) :
    mon (setInactive i s) i = { mon s i with active := false, latched := false } := by
  rw [setInactive, mon_syncPause, mon_setMon]

theorem mon_setInactive_of_ne {i j : MonitorId} (h : j ≠ i) (s : State) : mon (setInactive i s) j = mon s j := by
  rw [setInactive, mon_syncPause, mon_setMon_of_ne h]

/-- The end of CARRIER-STALL resumes the juice period (R123). -/
theorem setInactive_carrierStall_ja (s : State) :
    (setInactive .carrierStall s).ja = { s.ja with isPaused := false } := by
  simp [setInactive, syncPause, MonitorRec.effective]

/-! ### One monitor under CLEAR (R174) -/

/-- The monitor is one that a CLEAR ends: active and latched, its condition clear. -/
def MonitorRec.endsOnClear (r : MonitorRec) : Bool := r.active && r.latched && !r.condition

/-- The record after the first part of a CLEAR, the count not yet touched. -/
def MonitorRec.afterClear (r : MonitorRec) : MonitorRec :=
  { r with active := r.active && !r.endsOnClear, latched := r.latched && !r.endsOnClear }

theorem MonitorRec.endsOnClear_iff (r : MonitorRec) :
    r.endsOnClear = true ↔ r.active = true ∧ r.latched = true ∧ r.condition = false := by
  simp [MonitorRec.endsOnClear, and_assoc]

theorem clearOne_of_ends {s : State} {i : MonitorId} (h : (mon s i).endsOnClear = true) :
    clearOne s i = emit (.monitor i false) (setInactive i s) := by
  obtain ⟨hactive, hlatched, hcond⟩ := (mon s i).endsOnClear_iff.1 h
  rw [clearOne, if_pos ⟨hlatched, hcond⟩, finish, if_pos hactive]

theorem clearOne_of_stays {s : State} {i : MonitorId} (h : (mon s i).endsOnClear = false) : clearOne s i = s := by
  unfold clearOne finish
  split
  case isTrue hc =>
    obtain ⟨hlatched, hcond⟩ := hc
    have hinactive : ¬(mon s i).active = true := fun hactive =>
      Bool.eq_false_iff.1 h ((mon s i).endsOnClear_iff.2 ⟨hactive, hlatched, hcond⟩)
    exact if_neg hinactive
  case isFalse => rfl

theorem mon_clearOne (s : State) (i : MonitorId) : mon (clearOne s i) i = (mon s i).afterClear := by
  cases h : (mon s i).endsOnClear
  · simp [clearOne_of_stays h, MonitorRec.afterClear, h]
  · simp [clearOne_of_ends h, mon_setInactive, MonitorRec.afterClear, h]

theorem mon_clearOne_of_ne (s : State) (i j : MonitorId) (hne : j ≠ i) : mon (clearOne s i) j = mon s j := by
  cases h : (mon s i).endsOnClear
  · rw [clearOne_of_stays h]
  · rw [clearOne_of_ends h, mon_emit, mon_setInactive_of_ne hne]

theorem clearOne_fp (s : State) (i : MonitorId) :
    (clearOne s i).fp = if (mon s i).endsOnClear then (emit (.monitor i false) s).fp else s.fp := by
  cases h : (mon s i).endsOnClear
  · simp [clearOne_of_stays h]
  · simp [clearOne_of_ends h, emit_fp (t := s) _]

theorem clearOne_ja (s : State) (i : MonitorId) :
    (clearOne s i).ja =
      if i = .carrierStall ∧ (mon s i).endsOnClear then { s.ja with isPaused := false } else s.ja := by
  cases h : (mon s i).endsOnClear
  · simp [clearOne_of_stays h]
  · by_cases hi : i = .carrierStall
    · subst hi; simp [clearOne_of_ends h, setInactive_carrierStall_ja]
    · simp [clearOne_of_ends h, setInactive_ja, hi]

/-! ### The monitors in order (R174) -/

/-- One monitor's end says nothing of the monitors that follow it in the list. -/
theorem mon_clearOne_of_mem {l : List MonitorId} {i j : MonitorId} (hi : i ∉ l) (hj : j ∈ l) (s : State) :
    mon (clearOne s i) j = mon s j :=
  mon_clearOne_of_ne s i j fun h => hi (h ▸ hj)

/-- The MONITOR events that a CLEAR owes to the monitors of a list, in the order of the list (R174). -/
def endEvents (l : List MonitorId) (s : State) : List OutItem :=
  (l.filter fun i => (mon s i).endsOnClear).map fun i => .monitor i false

theorem endEvents_cons (i : MonitorId) (l : List MonitorId) (s : State) :
    endEvents (i :: l) s = if (mon s i).endsOnClear then .monitor i false :: endEvents l s else endEvents l s := by
  cases h : (mon s i).endsOnClear <;> simp [endEvents, h]

theorem endEvents_congr {l : List MonitorId} {s t : State} (h : ∀ i ∈ l, mon t i = mon s i) :
    endEvents l t = endEvents l s := by
  rw [endEvents, List.filter_congr fun i hi => by rw [h i hi], endEvents]

/-- The monitors that end give their MONITOR events in the order of the list (R174, R176). -/
theorem foldl_clearOne_fp {l : List MonitorId} (hl : l.Nodup) (s : State) :
    (l.foldl clearOne s).fp = ((endEvents l s).foldl (fun t ev => emit ev t) s).fp := by
  induction l generalizing s with
  | nil => rfl
  | cons i l ih =>
    obtain ⟨hi, hl⟩ := List.nodup_cons.1 hl
    have hfp := clearOne_fp s i
    rw [List.foldl_cons, ih hl, endEvents_congr fun j hj => mon_clearOne_of_mem hi hj s, endEvents_cons]
    split at hfp
    case isTrue h => rw [if_pos h, foldEmit_fp _ hfp, List.foldl_cons]
    case isFalse h => rw [if_neg h, foldEmit_fp _ hfp]

/-- A CARRIER-STALL that ends resumes the juice period; no other monitor touches it (R123, R174). -/
theorem foldl_clearOne_ja {l : List MonitorId} (hl : l.Nodup) (s : State) :
    (l.foldl clearOne s).ja = if .carrierStall ∈ l ∧ (mon s .carrierStall).endsOnClear then
      { s.ja with isPaused := false } else s.ja := by
  induction l generalizing s with
  | nil => rfl
  | cons i l ih =>
    obtain ⟨hi, hl⟩ := List.nodup_cons.1 hl
    rw [List.foldl_cons, ih hl, clearOne_ja]
    by_cases h : i = .carrierStall
    · subst h; simp [hi]
    · simp [h, mon_clearOne_of_ne s i _ (Ne.symm h), Ne.symm h]

/-! ### A CLEAR taken -/

theorem mon_zeroCount (s : State) (i : MonitorId) : mon (zeroCount s i) i = { mon s i with count := 0 } :=
  mon_setMon i _ s

theorem mon_zeroCount_of_ne (s : State) (i j : MonitorId) (h : j ≠ i) : mon (zeroCount s i) j = mon s j :=
  mon_setMon_of_ne h _ s

/-- Each monitor's record after a CLEAR: three of them have their counts set to 0 besides (R174). -/
theorem mon_takeClear (s : State) (i : MonitorId) :
    mon (takeClear s) i = if i ∈ [MonitorId.scaleOver, .carrierStall, .meterSilent] then
      { (mon s i).afterClear with count := 0 } else (mon s i).afterClear := by
  rw [takeClear, mon_foldl (g := fun r => { r with count := 0 }) mon_zeroCount mon_zeroCount_of_ne (by decide),
    mon_foldl mon_clearOne mon_clearOne_of_ne MonitorId.nodup_all, if_pos i.mem_all]

theorem takeClear_fp (s : State) :
    (takeClear s).fp = ((endEvents MonitorId.all s).foldl (fun t ev => emit ev t) s).fp := by
  rw [takeClear, foldl_view (·.fp) zeroCount (by simp), foldl_clearOne_fp MonitorId.nodup_all]

theorem takeClear_ja (s : State) :
    (takeClear s).ja = if (mon s .carrierStall).endsOnClear then { s.ja with isPaused := false } else s.ja := by
  rw [takeClear, foldl_view (·.ja) zeroCount (by simp), foldl_clearOne_ja MonitorId.nodup_all]
  simp [MonitorId.mem_all]

/-- In RUN no step of R184 refuses an empty CLEAR (R173). -/
theorem refusal_clear_none {p : List Byte} {s : State} (hp : p.length = 0) (hs : s.part.stationState = .run) :
    refusal .clear p s = none := by
  simp [refusal, servedBy, lengthOk, stateServes, hp, hs]

theorem exec_clear_accepted {p : List Byte} {s : State} (ht : PortTakes s) (hr : refusal .clear p s = none) :
    exec (.clear p) s = .next (replyTo .clear .accepted (takeClear (hunting s))) := by
  change execClear p s = _
  rw [execClear, decideRecord_own ht hr]

/-- Latched monitors being active, a CLEAR ends exactly the latched ones whose condition is clear. -/
theorem MonitorsSound.endsOnClear {s : State} (h : MonitorsSound s) (i : MonitorId) :
    (mon s i).endsOnClear = ((mon s i).latched && !(mon s i).condition) := by
  cases hl : (mon s i).latched
  · simp [MonitorRec.endsOnClear, hl]
  · simp [MonitorRec.endsOnClear, hl, ((h i).1 hl).1]

/-- Settles O55: no monitor's end touches another's record, so what each monitor does is read off the state before the
CLEAR, and the events come in the order of the list of monitors. -/
theorem clearEndsLatchedMonitors : Obligations.ClearEndsLatchedMonitors := by
  intro p s hrun ht hp hsound ends counted
  have hends (i : MonitorId) : (mon (hunting s) i).endsOnClear = ends i := hsound.endsOnClear i
  have hrecord (i : MonitorId) : (mon (hunting s) i).afterClear =
      { mon s i with active := (mon s i).active && !ends i, latched := (mon s i).latched && !ends i } := by
    rw [MonitorRec.afterClear, hends, mon_hunting]
  have hevents : endEvents MonitorId.all (hunting s) = (MonitorId.all.filter ends).map fun i => .monitor i false := by
    simp only [endEvents, hends]
  refine ⟨_, exec_clear_accepted ht (refusal_clear_none hp hrun), fun i => ?_, ?_, ?_, ?_⟩
  · rw [replyTo, mon_place, mon_takeClear, hrecord]
    cases i <;> rfl
  · rw [replyTo, place_fp _ (takeClear_fp (hunting s)), hevents]
    rfl
  · have hja := takeClear_ja (hunting s)
    rw [hends] at hja
    simpa [replyTo] using hja
  · simp [replyTo]

end Sys2Proof.Machine
end

section
/-! PROOFS. The commands by family: the field records by their owning rules, what every command leaves to the outside (logs 1,
2 and 35), and which commands do nothing at a station outside RUN (R3, R37, R40). -/

namespace Sys2Proof.Machine

/-! ### Every command completes -/

/-- The owning rule of each field record (Table 10-1). -/
def ownRule : RecordKind → List Byte → State → State
  | .configure, p => ownConfigure p
  | .statusRequest, p => ownStatusRequest p
  | .clear, _ => fun t => replyTo .clear .accepted (takeClear t)
  | .clearFresh, _ => fun t => replyTo .clearFresh .accepted (t.setPart { t.part with fresh := false })
  | .restart, _ => fun t => replyTo .restart .accepted (takeRestart t)
  | .vehicle, p => ownVehicle p
  | .weight, p => ownWeight p
  | .withdraw, p => ownWithdraw p
  | .assign, p => ownAssign p
  | .disarm, _ => ownDisarm
  | .analysis, p => ownAnalysis p
  | .dayEnd, _ => ownDayEnd
  | .read, _ => ownRead
  | .release, p => ownRelease p

/-- Every field record is decided by R184 and then by its owning rule. -/
theorem exec_asRecord {c : Instr} {k : RecordKind} {p : List Byte} (s : State) (hc : asRecord c = some (k, p)) :
    exec c s = .next (decideRecord k p (ownRule k p) s) := by
  cases c <;> cases hc <;> rfl

/-- No command ends in a fault or a refusal: every arm of `exec` answers a next state. -/
theorem exec_completes (c : Instr) (s : State) : ∃ t, exec c s = .next t := by
  cases hframe : asFrame c with
  | some f =>
    obtain ⟨h, k, p⟩ := f
    exact ⟨_, exec_asFrame s hframe⟩
  | none =>
    cases hrecord : asRecord c with
    | some r =>
      obtain ⟨k, p⟩ := r
      exact ⟨_, exec_asRecord s hrecord⟩
    | none =>
      cases c with
      | powerOn | pinReset | resetnFall | recordGapTimeout | recordDiscard => exact ⟨_, rfl⟩
      | powerUpEnd => unfold exec execPowerUpEnd; dsimp only; split <;> exact ⟨_, rfl⟩
      | lineQuiet => unfold exec execLineQuiet; dsimp only; split <;> exact ⟨_, rfl⟩
      | lineActive => unfold exec execLineActive; dsimp only; split <;> exact ⟨_, rfl⟩
      | attemptStart => unfold exec execAttemptStart; dsimp only; (repeat' split) <;> exact ⟨_, rfl⟩
      | attemptComplete => unfold exec execAttemptComplete; dsimp only; split <;> exact ⟨_, rfl⟩
      | collision => unfold exec execCollision; dsimp only; split <;> exact ⟨_, rfl⟩
      | collisionMarkEnd => unfold exec execCollisionMarkEnd; dsimp only; split <;> exact ⟨_, rfl⟩
      | backoffEnd => unfold exec execBackoffEnd; dsimp only; (repeat' split) <;> exact ⟨_, rfl⟩
      | frameError => unfold exec execFrameError; dsimp only; split <;> exact ⟨_, rfl⟩
      | startedBeaconDue => unfold exec execStartedBeaconDue; dsimp only; split <;> exact ⟨_, rfl⟩
      | regularBeaconDue => unfold exec execRegularBeaconDue; dsimp only; split <;> exact ⟨_, rfl⟩
      | peerSilenceExpiry => unfold exec execPeerSilenceExpiry; dsimp only; split <;> exact ⟨_, rfl⟩
      | peerAbsenceTimeout => unfold exec execPeerAbsenceTimeout; dsimp only; split <;> exact ⟨_, rfl⟩
      | recordChecksumError => unfold exec execRecordChecksumError; dsimp only; split <;> exact ⟨_, rfl⟩
      | recordUnknownKind => unfold exec execRecordUnknownKind; dsimp only; split <;> exact ⟨_, rfl⟩
      | outboundItemSent => unfold exec execOutboundItemSent; dsimp only; split <;> exact ⟨_, rfl⟩
      | openEntryExpiry => unfold exec execOpenEntryExpiry; dsimp only; (repeat' split) <;> exact ⟨_, rfl⟩
      | awaitingEntryExpiry => unfold exec execAwaitingEntryExpiry; dsimp only; split <;> exact ⟨_, rfl⟩
      | tippingActive => unfold exec execTippingActive; dsimp only; split <;> exact ⟨_, rfl⟩
      | minTipTimeExpiry => unfold exec execMinTipTimeExpiry; dsimp only; split <;> exact ⟨_, rfl⟩
      | tippingRelease => unfold exec execTippingRelease; dsimp only; (repeat' split) <;> exact ⟨_, rfl⟩
      | stepPulse => unfold exec execStepPulse; dsimp only; split <;> exact ⟨_, rfl⟩
      | speedSaturation => unfold exec execSpeedSaturation; dsimp only; split <;> exact ⟨_, rfl⟩
      | stallQuietInterval => unfold exec execStallQuietInterval; dsimp only; split <;> exact ⟨_, rfl⟩
      | runContactActive => unfold exec execRunContactActive; dsimp only; split <;> exact ⟨_, rfl⟩
      | runContactRelease => unfold exec execRunContactRelease; dsimp only; split <;> exact ⟨_, rfl⟩
      | startAllowanceExpiry => unfold exec execStartAllowanceExpiry; dsimp only; split <;> exact ⟨_, rfl⟩
      | flowPulse => unfold exec execFlowPulse; dsimp only; (repeat' split) <;> exact ⟨_, rfl⟩
      | periodTimerExpiry => unfold exec execPeriodTimerExpiry; dsimp only; split <;> exact ⟨_, rfl⟩
      | pauseLimitExpiry => unfold exec execPauseLimitExpiry; dsimp only; split <;> exact ⟨_, rfl⟩
      | completionTimerExpiry => unfold exec execCompletionTimerExpiry; dsimp only; (repeat' split) <;> exact ⟨_, rfl⟩
      | notCrushedAgeExpiry => unfold exec execNotCrushedAgeExpiry; dsimp only; (repeat' split) <;> exact ⟨_, rfl⟩
      | summaryWaitExpiry => unfold exec execSummaryWaitExpiry; dsimp only; (repeat' split) <;> exact ⟨_, rfl⟩
      | _ => simp [asFrame, asRecord] at hframe hrecord

/-- The queue and the wires are the outside's (logs 1 and 35), and only a reset moves the prescalers (log 2). -/
theorem exec_outside {c : Instr} {s t : State} (h : exec c s = .next t) :
    t.pending = s.pending ∧ t.wires = s.wires ∧ (isReset c = false → t.clock = s.clock) := by
  cases hframe : asFrame c with
  | some f =>
    obtain ⟨header, kind, p⟩ := f
    obtain rfl : receive header kind p s = t := by simpa [exec_asFrame s hframe] using h
    simp
  | none =>
    cases c with
    | powerOn => simp [execPowerOn_frame h, isReset]
    | pinReset => simp [execPinReset_frame h, isReset]
    | powerUpEnd => simp [execPowerUpEnd_frame h]
    | lineQuiet => simp [execLineQuiet_frame h]
    | attemptStart => simp [execAttemptStart_frame h]
    | attemptComplete => simp [execAttemptComplete_frame h]
    | collision => simp [execCollision_frame h]
    | collisionMarkEnd => simp [execCollisionMarkEnd_frame h]
    | backoffEnd => simp [execBackoffEnd_frame h]
    | frameError => simp [execFrameError_frame h]
    | startedBeaconDue => simp [execStartedBeaconDue_frame h]
    | regularBeaconDue => simp [execRegularBeaconDue_frame h]
    | peerSilenceExpiry => simp [execPeerSilenceExpiry_frame h]
    | peerAbsenceTimeout => simp [execPeerAbsenceTimeout_frame h]
    | recordGapTimeout => simp [execRecordGapTimeout_frame h]
    | recordDiscard => simp [execRecordDiscard_frame h]
    | recordChecksumError => simp [execRecordChecksumError_frame h]
    | recordUnknownKind => simp [execRecordUnknownKind_frame h]
    | configure => simp [execConfigure_frame h]
    | statusRequest => simp [execStatusRequest_frame h]
    | clear => simp [execClear_frame h]
    | clearFresh => simp [execClearFresh_frame h]
    | restart => simp [execRestart_frame h]
    | vehicle => simp [execVehicle_frame h]
    | weight => simp [execWeight_frame h]
    | withdraw => simp [execWithdraw_frame h]
    | assign => simp [execAssign_frame h]
    | disarm => simp [execDisarm_frame h]
    | analysis => simp [execAnalysis_frame h]
    | dayEnd => simp [execDayEnd_frame h]
    | read => simp [execRead_frame h]
    | release => simp [execRelease_frame h]
    | outboundItemSent => simp [execOutboundItemSent_frame h]
    | openEntryExpiry => simp [execOpenEntryExpiry_frame h]
    | awaitingEntryExpiry => simp [execAwaitingEntryExpiry_frame h]
    | tippingActive => simp [execTippingActive_frame h]
    | minTipTimeExpiry => simp [execMinTipTimeExpiry_frame h]
    | tippingRelease => simp [execTippingRelease_frame h]
    | stepPulse => simp [execStepPulse_frame h]
    | speedSaturation => simp [execSpeedSaturation_frame h]
    | stallQuietInterval => simp [execStallQuietInterval_frame h]
    | runContactActive => simp [execRunContactActive_frame h]
    | runContactRelease => simp [execRunContactRelease_frame h]
    | startAllowanceExpiry => simp [execStartAllowanceExpiry_frame h]
    | flowPulse => simp [execFlowPulse_frame h]
    | periodTimerExpiry => simp [execPeriodTimerExpiry_frame h]
    | pauseLimitExpiry => simp [execPauseLimitExpiry_frame h]
    | completionTimerExpiry => simp [execCompletionTimerExpiry_frame h]
    | notCrushedAgeExpiry => simp [execNotCrushedAgeExpiry_frame h]
    | summaryWaitExpiry => simp [execSummaryWaitExpiry_frame h]
    | lineActive => simp [execLineActive_frame h]
    | resetnFall => simp [execResetnFall_frame h, isReset]
    | _ => simp [asFrame] at hframe

/-- Settles O3: each command has its arm, and what an arm leaves to the outside is said command by command. -/
theorem everyCommandCompletes : Obligations.EveryCommandCompletes := by
  intro c s
  obtain ⟨t, h⟩ := exec_completes c s
  exact ⟨t, h, exec_outside h⟩

end Sys2Proof.Machine
end

section
/-! PROOFS. The station outside RUN (R3, R37, R40) and what the part holds until a reset (R36, R38, R41, R44): which commands do
nothing, what records and frames still do, and how each command leaves the part and the transmitter. -/

namespace Sys2Proof.Machine

/-! ### Commands that act in RUN only -/

/-- The commands of the transmitter, the beacons, the 10 s measure and the role units. -/
def actsInRunOnly : Instr → Bool
  | .attemptStart | .attemptComplete | .collision | .collisionMarkEnd | .backoffEnd | .startedBeaconDue
  | .regularBeaconDue | .peerAbsenceTimeout | .openEntryExpiry _ | .awaitingEntryExpiry _ | .tippingActive
  | .minTipTimeExpiry | .tippingRelease | .stepPulse _ | .speedSaturation | .stallQuietInterval | .runContactActive
  | .runContactRelease | .startAllowanceExpiry | .flowPulse | .periodTimerExpiry | .pauseLimitExpiry
  | .completionTimerExpiry _ | .notCrushedAgeExpiry _ | .summaryWaitExpiry => true
  | _ => false

/-- No role unit runs outside RUN. -/
theorem runsAs_outside_run {s : State} (h : s.part.stationState ≠ .run) (r : Role) : runsAs r s = false := by
  simp [runsAs, h]

/-- Outside RUN, with the transmitter idle, these commands do nothing. -/
theorem exec_outside_run {c : Instr} {s : State} (hc : actsInRunOnly c = true) (hrun : s.part.stationState ≠ .run)
    (hidle : s.li.tx = .idle) : exec c s = .next s := by
  have hr := runsAs_outside_run hrun
  cases c with
  | attemptStart => simp [exec, execAttemptStart, mayAttempt, hrun]
  | attemptComplete => simp [exec, execAttemptComplete, hidle]
  | collision => simp [exec, execCollision, hidle]
  | collisionMarkEnd => simp [exec, execCollisionMarkEnd, hidle]
  | backoffEnd => simp [exec, execBackoffEnd, hidle]
  | startedBeaconDue => simp [exec, execStartedBeaconDue, hrun]
  | regularBeaconDue => simp [exec, execRegularBeaconDue, hrun]
  | peerAbsenceTimeout => simp [exec, execPeerAbsenceTimeout, hrun]
  | openEntryExpiry => simp [exec, execOpenEntryExpiry, hr]
  | awaitingEntryExpiry => simp [exec, execAwaitingEntryExpiry, hr]
  | tippingActive => simp [exec, execTippingActive, hr]
  | minTipTimeExpiry => simp [exec, execMinTipTimeExpiry, hr]
  | tippingRelease => simp [exec, execTippingRelease, hr]
  | stepPulse => simp [exec, execStepPulse, carrierRuns, hr]
  | speedSaturation => simp [exec, execSpeedSaturation, carrierRuns, hr]
  | stallQuietInterval => simp [exec, execStallQuietInterval, stallWatched, hr]
  | runContactActive => simp [exec, execRunContactActive, hr]
  | runContactRelease => simp [exec, execRunContactRelease, hr]
  | startAllowanceExpiry => simp [exec, execStartAllowanceExpiry, hr]
  | flowPulse => simp [exec, execFlowPulse, juiceRuns, hr]
  | periodTimerExpiry => simp [exec, execPeriodTimerExpiry, juiceRuns, hr]
  | pauseLimitExpiry => simp [exec, execPauseLimitExpiry, juiceRuns, hr]
  | completionTimerExpiry => simp [exec, execCompletionTimerExpiry, hr]
  | notCrushedAgeExpiry => simp [exec, execNotCrushedAgeExpiry, hr]
  | summaryWaitExpiry => simp [exec, execSummaryWaitExpiry, hr]
  | _ => cases hc

/-! ### Records outside RUN -/

/-- The state of a record that R184 lets through is one that its row of Table 10-1 serves. -/
theorem stateServes_of_refusal_none {k : RecordKind} {p : List Byte} {s : State} (h : refusal k p s = none) :
    stateServes k s.part.stationState = true := by
  unfold refusal at h
  grind

/-- A record that acts in RUN only changes the field port alone outside RUN, where R184 refuses it. -/
theorem decideRecord_outside_run {k : RecordKind} {p : List Byte} {own : State → State} {s : State}
    (hserves : stateServes k s.part.stationState = false) :
    ∃ fp, decideRecord k p own s = { s with fp := fp } := by
  unfold decideRecord
  split
  · cases hr : refusal k p s with
    | none => simp [stateServes_of_refusal_none hr] at hserves
    | some code => exact ⟨_, rfl⟩
  · exact ⟨s.fp, rfl⟩

/-! ### The part after an entry to RUN, a new day, a frame -/

/-- The crop day on entry to RUN: LAB takes its first, the others keep theirs (R46). -/
def dayOnEntry (c : Settings) (day : Nat) : Nat :=
  match c.forRole with
  | .lab l => l.firstDay
  | .entry _ | .exit _ _ | .tip _ | .mill _ => day

@[simp] theorem adoptDay_part (d : Nat) (s : State) : (adoptDay d s).part = { s.part with day := d } := by
  unfold adoptDay
  split
  next h => rw [h]
  · dsimp only
    split <;> simp

/-- Entry to RUN stores the settings and keeps the station, its role and its fresh flag (R39, R46). -/
@[simp] theorem enterRun_part (c : Settings) (s : State) :
    (enterRun c s).part =
      { s.part with stationState := .run, settings := some c, day := dayOnEntry c s.part.day } := by
  unfold enterRun dayOnEntry
  dsimp only
  split
  next h => simp [h, startUnits]
  next h => split <;> simp_all [startUnits]

@[simp] theorem enterMute_part (cause : MuteCause) (s : State) :
    (enterMute cause s).part = { s.part with stationState := .mute, muteCause := cause } := by
  simp [enterMute]

@[simp] theorem enterMute_li (cause : MuteCause) (s : State) : (enterMute cause s).li = s.li.stopped := by
  simp [enterMute]

/-- A well-formed notice changes nothing of the part but the day held (R45). -/
theorem actOn_part (sender : Role) (r : Received) (s : State) :
    ∃ d, (actOn sender r s).part = { s.part with day := d } := by
  unfold actOn
  split
  case h_1 =>
    unfold takeBeacon
    split
    · exact ⟨_, adoptDay_part ..⟩
    · exact ⟨_, rfl⟩
  case h_6 n =>
    have hday : ∃ d, (if s.part.role = some .lab then s else adoptDay n.newDay s).part = { s.part with day := d } := by
      split
      · exact ⟨_, rfl⟩
      · exact ⟨_, adoptDay_part ..⟩
    obtain ⟨d, hd⟩ := hday
    unfold takeDayEndNotice
    dsimp only
    split <;> exact ⟨d, by simpa using hd⟩
  all_goals
    try split
  all_goals exact ⟨s.part.day, by simp⟩

/-- Outside RUN a well-formed notice is day adoption alone (R24, R45). -/
theorem actOn_outside_run {s : State} (hrun : s.part.stationState ≠ .run) (sender : Role) (r : Received) :
    actOn sender r s = s ∨ ∃ d, actOn sender r s = adoptDay d s := by
  have hr := runsAs_outside_run hrun
  unfold actOn
  split
  case h_1 =>
    unfold takeBeacon
    split
    · exact .inr ⟨_, rfl⟩
    · exact .inl rfl
  case h_6 =>
    simp only [takeDayEndNotice, hr, Bool.false_eq_true, if_false]
    split
    · exact .inl rfl
    · exact .inr ⟨_, rfl⟩
  all_goals exact .inl (by simp [takeGross, takeNet, hr])

/-- What the checks of R25 can come to. -/
theorem checkNotice_cases (h : FrameHeader) (sender : Role) (kind : Nat) (p : List Byte) (s : State) :
    checkNotice h sender kind p s = countUnknownKind s ∨ checkNotice h sender kind p s = countMalformed s ∨
    ∃ r, readNotice kind h.station sender p = some r ∧ checkNotice h sender kind p s = actOn sender r s := by
  unfold checkNotice
  split
  · exact .inl rfl
  · split
    next r hr => exact .inr (.inr ⟨r, hr, rfl⟩)
    · exact .inr (.inl rfl)

/-- What a GOOD frame can come to (R12, R13, R19, R20). -/
theorem receive_cases (h : FrameHeader) (k : Nat) (p : List Byte) (s : State) :
    receive h k p s = s ∨ receive h k p s = countBadSource (frameTaken s) ∨
    ((s.part.stationState = .powerUp ∨ s.part.stationState = .mute) ∧ receive h k p s = frameTaken s) ∨
    (s.part.stationState = .config ∨ s.part.stationState = .run) ∧
      (receive h k p s = enterMute .duplicateStation (frameTaken s) ∨
        ∃ sender, let u := heard sender h k p s
          receive h k p s = enterMute .duplicateRole u ∨ receive h k p s = checkNotice h sender k p u) := by
  unfold receive
  split
  · split
    next sender _ =>
      unfold passFrame acceptFrame
      simp only [frameTaken_frame]
      split
      next hs => exact .inr (.inr (.inl ⟨.inl hs, rfl⟩))
      next hs => exact .inr (.inr (.inl ⟨.inr hs, rfl⟩))
      next hs =>
        refine .inr (.inr (.inr ⟨.inl hs, .inr ⟨sender, ?_⟩⟩))
        split
        · exact .inl rfl
        · exact .inr rfl
      next hs =>
        refine .inr (.inr (.inr ⟨.inr hs, ?_⟩))
        split
        · exact .inl rfl
        · refine .inr ⟨sender, ?_⟩
          split
          · exact .inl rfl
          · exact .inr rfl
    · exact .inr (.inl rfl)
  · exact .inl rfl

/-! ### The transmitter outside RUN (R3) -/

/-- What the transmitter has to send: its state, the frame in hand, the queue and the beacon timer. -/
def LineInterface.toSend (li : LineInterface) : TxState × Option InHand × List QueueEntry × Option Nat :=
  (li.tx, li.inHand, li.queue, li.beaconTimer)

/-- The transmitter is idle with nothing to send. -/
def LineInterface.Silent (li : LineInterface) : Prop := li.toSend = (.idle, none, [], none)

theorem silent_iff (li : LineInterface) :
    li.Silent ↔ li.tx = .idle ∧ li.inHand = none ∧ li.queue = [] ∧ li.beaconTimer = none := by
  simp [LineInterface.Silent, LineInterface.toSend]

theorem silentOutsideRun_iff (s : State) : SilentOutsideRun s ↔ (s.part.stationState ≠ .run → s.li.Silent) := by
  rw [SilentOutsideRun, silent_iff]

theorem stopped_silent (li : LineInterface) : li.stopped.Silent := rfl

/-- Line events leave what there is to send, and all but the line interface. -/
theorem exec_lineEvent {c : Instr} {s t : State} (hc : c = .lineQuiet ∨ c = .lineActive ∨ ∃ e, c = .frameError e)
    (h : exec c s = .next t) : ∃ li, t = { s with li := li } ∧ li.toSend = s.li.toSend := by
  rcases hc with rfl | rfl | ⟨e, rfl⟩
  · simp only [exec, execLineQuiet] at h
    split at h <;> cases h <;> exact ⟨_, rfl, rfl⟩
  · simp only [exec, execLineActive] at h
    split at h <;> cases h <;> exact ⟨_, rfl, rfl⟩
  · simp only [exec, execFrameError] at h
    split at h <;> cases h
    · exact ⟨_, rfl, by cases e <;> rfl⟩
    · exact ⟨_, rfl, rfl⟩

@[simp] theorem frameTaken_toSend (s : State) : (frameTaken s).li.toSend = s.li.toSend := rfl

@[simp] theorem setCounters_toSend (c : LineCounters) (s : State) : (setCounters c s).li.toSend = s.li.toSend := rfl

@[simp] theorem heard_toSend (sender : Role) (h : FrameHeader) (k : Nat) (p : List Byte) (s : State) :
    (heard sender h k p s).li.toSend = s.li.toSend := by
  simp [heard, tableUpdated]

/-- Outside RUN a frame leaves what there is to send, or mutes the station, which then has nothing to send. -/
theorem receive_toSend_outside_run {s : State} (hrun : s.part.stationState ≠ .run) (h : FrameHeader) (k : Nat)
    (p : List Byte) : (receive h k p s).li.toSend = s.li.toSend ∨ (receive h k p s).li.Silent := by
  rcases receive_cases h k p s with hr | hr | ⟨-, hr⟩ | ⟨-, hr | ⟨sender, hr | hr⟩⟩ <;> rw [hr]
  · exact .inl rfl
  · exact .inl rfl
  · exact .inl rfl
  · exact .inr (by rw [enterMute_li]; exact stopped_silent _)
  · exact .inr (by rw [enterMute_li]; exact stopped_silent _)
  · left
    have hu : (heard sender h k p s).part.stationState ≠ .run := by simpa using hrun
    rcases checkNotice_cases h sender k p (heard sender h k p s) with hc | hc | ⟨r, -, hc⟩ <;> rw [hc]
    · simp [countUnknownKind]
    · simp [countMalformed]
    · rcases actOn_outside_run hu sender r with ha | ⟨d, ha⟩ <;> rw [ha] <;> simp

/-- A frame leaves the part as it is but for the day held, or mutes the station. -/
theorem receive_part (h : FrameHeader) (k : Nat) (p : List Byte) (s : State) :
    (∃ d, (receive h k p s).part = { s.part with day := d }) ∨
    ∃ cause, (receive h k p s).part = { s.part with stationState := .mute, muteCause := cause } ∧
      (receive h k p s).li.Silent := by
  rcases receive_cases h k p s with hr | hr | ⟨-, hr⟩ | ⟨-, hr | ⟨sender, hr | hr⟩⟩ <;> rw [hr]
  · exact .inl ⟨s.part.day, rfl⟩
  · exact .inl ⟨s.part.day, by simp⟩
  · exact .inl ⟨s.part.day, by simp⟩
  · exact .inr ⟨.duplicateStation, by simp, by rw [enterMute_li]; exact stopped_silent _⟩
  · exact .inr ⟨.duplicateRole, by simp, by rw [enterMute_li]; exact stopped_silent _⟩
  · left
    rcases checkNotice_cases h sender k p (heard sender h k p s) with hc | hc | ⟨r, -, hc⟩ <;> rw [hc]
    · exact ⟨s.part.day, by simp⟩
    · exact ⟨s.part.day, by simp⟩
    · obtain ⟨d, hd⟩ := actOn_part sender r (heard sender h k p s)
      exact ⟨d, by simpa using hd⟩

/-! ### What a record does to the part -/

/-- An owning rule leaves the part as it is but for the day held and the fresh flag, or enters RUN. -/
theorem ownRule_part (k : RecordKind) (p : List Byte) (s : State) :
    (∃ d f, (ownRule k p s).part = { s.part with day := d, fresh := f } ∧ (k ≠ .clearFresh → f = s.part.fresh) ∧
      (f = s.part.fresh ∨ f = false)) ∨
    ∃ c, (ownRule k p s).part =
        { s.part with stationState := .run, settings := some c, day := dayOnEntry c s.part.day } ∧
      (k = .configure ∨ k = .restart ∧ s.part.settings = some c) := by
  cases k with
  | configure =>
    simp only [ownRule, ownConfigure]
    split
    · exact .inl ⟨s.part.day, s.part.fresh, rfl, by simp⟩
    next role _ =>
      split
      · exact .inl ⟨s.part.day, s.part.fresh, by simp, by simp⟩
      · exact .inr ⟨readSettings role p, by simp, by simp⟩
  | restart =>
    simp only [ownRule, takeRestart]
    split
    next c hc => exact .inr ⟨c, by simp, by simp [hc]⟩
    · exact .inl ⟨s.part.day, s.part.fresh, by simp, by simp⟩
  | clearFresh => exact .inl ⟨s.part.day, false, by simp [ownRule], by simp⟩
  | dayEnd =>
    simp only [ownRule, ownDayEnd, takeDayEndRecord]
    split
    · exact .inl ⟨s.part.day, s.part.fresh, by simp, by simp⟩
    · exact .inl ⟨_, s.part.fresh, by simp; rfl, by simp⟩
  | _ => exact .inl ⟨s.part.day, s.part.fresh, by simp [ownRule], by simp⟩

/-- A record is lost, refused with a reply alone, or decided by its owning rule. -/
theorem decideRecord_cases (k : RecordKind) (p : List Byte) (own : State → State) (s : State) :
    (∃ fp, decideRecord k p own s = { s with fp := fp }) ∨
    decideRecord k p own s = own (hunting s) ∧ refusal k p s = none := by
  unfold decideRecord
  split
  · cases hr : refusal k p s with
    | none => exact .inr ⟨rfl, rfl⟩
    | some code => exact .inl ⟨_, rfl⟩
  · exact .inl ⟨s.fp, rfl⟩

/-! ### The part and the transmitter after a command -/

/-- The commands that act in RUN only leave the part as a whole unchanged. -/
theorem exec_actsInRunOnly_part {c : Instr} {s t : State} (hc : actsInRunOnly c = true) (h : exec c s = .next t) :
    t.part = s.part := by
  cases c with
  | attemptStart => simp [execAttemptStart_frame h]
  | attemptComplete => simp [execAttemptComplete_frame h]
  | collision => simp [execCollision_frame h]
  | collisionMarkEnd => simp [execCollisionMarkEnd_frame h]
  | backoffEnd => simp [execBackoffEnd_frame h]
  | startedBeaconDue => simp [execStartedBeaconDue_frame h]
  | regularBeaconDue => simp [execRegularBeaconDue_frame h]
  | peerAbsenceTimeout => simp [execPeerAbsenceTimeout_frame h]
  | openEntryExpiry => simp [execOpenEntryExpiry_frame h]
  | awaitingEntryExpiry => simp [execAwaitingEntryExpiry_frame h]
  | tippingActive => simp [execTippingActive_frame h]
  | minTipTimeExpiry => simp [execMinTipTimeExpiry_frame h]
  | tippingRelease => simp [execTippingRelease_frame h]
  | stepPulse => simp [execStepPulse_frame h]
  | speedSaturation => simp [execSpeedSaturation_frame h]
  | stallQuietInterval => simp [execStallQuietInterval_frame h]
  | runContactActive => simp [execRunContactActive_frame h]
  | runContactRelease => simp [execRunContactRelease_frame h]
  | startAllowanceExpiry => simp [execStartAllowanceExpiry_frame h]
  | flowPulse => simp [execFlowPulse_frame h]
  | periodTimerExpiry => simp [execPeriodTimerExpiry_frame h]
  | pauseLimitExpiry => simp [execPauseLimitExpiry_frame h]
  | completionTimerExpiry => simp [execCompletionTimerExpiry_frame h]
  | notCrushedAgeExpiry => simp [execNotCrushedAgeExpiry_frame h]
  | summaryWaitExpiry => simp [execSummaryWaitExpiry_frame h]
  | _ => cases hc

/-- The commands by family: resets, the end of POWER-UP, those that act in RUN only, line events, frames, records, and the
rest, which change the peer table, the monitors and the field port. -/
theorem instr_families (c : Instr) :
    isReset c = true ∨ (∃ n a b, c = .powerUpEnd n a b) ∨ actsInRunOnly c = true ∨
    (c = .lineQuiet ∨ c = .lineActive ∨ ∃ e, c = .frameError e) ∨ (∃ h k p, asFrame c = some (h, k, p)) ∨
    (∃ k p, asRecord c = some (k, p)) ∨
    ((∃ n, c = .peerSilenceExpiry n) ∨ c = .recordGapTimeout ∨ c = .recordDiscard ∨ (∃ b, c = .recordChecksumError b) ∨
      (∃ b, c = .recordUnknownKind b) ∨ c = .outboundItemSent) := by
  cases c <;> simp [isReset, actsInRunOnly, asFrame, asRecord]

/-- The rest leave the part, the line interface and the units unchanged. -/
theorem exec_rest_frame {c : Instr} {s t : State}
    (hc : (∃ n, c = .peerSilenceExpiry n) ∨ c = .recordGapTimeout ∨ c = .recordDiscard ∨
      (∃ b, c = .recordChecksumError b) ∨ (∃ b, c = .recordUnknownKind b) ∨ c = .outboundItemSent)
    (h : exec c s = .next t) :
    t.part = s.part ∧ t.li = s.li ∧ t.wu = s.wu ∧ t.tu = s.tu ∧ t.cc = s.cc ∧ t.cl = s.cl ∧ t.ja = s.ja ∧
      t.ra = s.ra := by
  rcases hc with ⟨n, rfl⟩ | rfl | rfl | ⟨b, rfl⟩ | ⟨b, rfl⟩ | rfl
  · simp [execPeerSilenceExpiry_frame h]
  · simp [execRecordGapTimeout_frame h]
  · simp [execRecordDiscard_frame h]
  · simp [execRecordChecksumError_frame h]
  · simp [execRecordUnknownKind_frame h]
  · simp [execOutboundItemSent_frame h]

theorem exec_silent {c : Instr} {s t : State} (hs : SilentOutsideRun s) (h : exec c s = .next t) :
    SilentOutsideRun t := by
  rw [silentOutsideRun_iff] at hs ⊢
  rcases instr_families c with hc | ⟨n, a, b, rfl⟩ | hc | hc | ⟨header, k, p, hc⟩ | ⟨k, p, hc⟩ | hc
  · cases c with
    | powerOn | pinReset | resetnFall => cases h; exact fun _ => rfl
    | _ => cases hc
  · rw [(execPowerUpEnd_frame h).1]
    simp only [exec, execPowerUpEnd] at h
    split at h <;> cases h
    next hup => exact fun _ => hs (by simp [hup])
    · exact hs
  · by_cases hrun : s.part.stationState = .run
    · rw [exec_actsInRunOnly_part hc h]
      exact fun hne => absurd hrun hne
    · have hidle := (silent_iff _).1 (hs hrun)
      cases (exec_outside_run hc hrun hidle.1).symm.trans h
      exact hs
  · obtain ⟨li, rfl, hli⟩ := exec_lineEvent hc h
    exact fun hne => hli.trans (hs hne)
  · obtain rfl : receive header k p s = t := by simpa [exec_asFrame s hc] using h
    intro hne
    rcases receive_part header k p s with ⟨d, hd⟩ | ⟨_, -, hmute⟩
    · have hrun : s.part.stationState ≠ .run := by simpa [hd] using hne
      rcases receive_toSend_outside_run hrun header k p with hli | hsilent
      · exact hli.trans (hs hrun)
      · exact hsilent
    · exact hmute
  · obtain rfl : decideRecord k p (ownRule k p) s = t := by simpa [exec_asRecord s hc] using h
    rcases decideRecord_cases k p (ownRule k p) s with ⟨fp, hd⟩ | ⟨hd, hnone⟩ <;> rw [hd]
    · exact hs
    · rcases ownRule_part k p (hunting s) with ⟨d, f, hpart, -⟩ | ⟨c, hpart, -⟩
      · intro hne
        have hrun : s.part.stationState ≠ .run := by simpa [hpart] using hne
        have hserves := stateServes_of_refusal_none hnone
        cases k with
        | statusRequest => simpa [ownRule] using hs hrun
        | clearFresh => simpa [ownRule] using hs hrun
        | configure =>
          revert hne
          simp only [ownRule, ownConfigure]
          split
          · exact fun _ => hs hrun
          · split
            · exact fun _ => by simpa using hs hrun
            · simp
        | _ => simp [stateServes, hrun] at hserves
      · simp [hpart]
  · obtain ⟨hpart, hli, -⟩ := exec_rest_frame hc h
    rwa [hpart, hli]

/-! ### Time -/

/-- The passing of time keeps the station's state. -/
theorem count_part (s : State) :
    (count s).part = { s.part with powerUpMs := (count s).part.powerUpMs } := by
  unfold count countMs countRoleMs
  dsimp only
  (repeat' split) <;> simp

/-- Outside RUN the counts of a tick leave what there is to send. -/
theorem count_toSend {s : State} (hrun : s.part.stationState ≠ .run) : (count s).li.toSend = s.li.tick.toSend := by
  unfold count countMs
  dsimp only
  (repeat' split) <;> simp_all

/-- A tick of the line interface counts; it takes nothing in hand. -/
@[simp] theorem tick_toSend (li : LineInterface) : li.tick.toSend = li.toSend := by
  unfold LineInterface.tick
  dsimp only
  (repeat' split) <;> rfl

/-- A tick is the counts of a state that differs in the field port's receiver, the wires and the queue, and then the line's
receiver, FLOW, the wires and the queue. -/
theorem advance_counts (s : State) : ∃ w : State,
    (w.part = s.part ∧ w.li = s.li ∧ w.pt = s.pt ∧ w.wu = s.wu ∧ w.tu = s.tu ∧ w.cc = s.cc ∧ w.cl = s.cl ∧ w.ja = s.ja ∧
      w.ra = s.ra ∧ w.mu = s.mu ∧ w.fp.out = s.fp.out) ∧
    ∃ (rx : LineRx) (bit flow : Option Nat) (wires : Wires) (commands : List Instr),
      advance s = { count w with
        li := { (count w).li with rx := rx, bitTicks := bit }, ja := { (count w).ja with flowTicks := flow }
        wires := wires, pending := commands } := by
  obtain ⟨frx, gap, rx, bit, flow, w0, wires, c0, commands, h⟩ := advance_spec s
  exact ⟨{ s with fp := { s.fp with rx := frx, gapTicks := gap }, wires := w0, pending := s.pending ++ c0 },
    ⟨rfl, rfl, rfl, rfl, rfl, rfl, rfl, rfl, rfl, rfl, rfl⟩, rx, bit, flow, wires, _, h⟩

theorem advance_silent {s : State} (hs : SilentOutsideRun s) : SilentOutsideRun (advance s) := by
  rw [silentOutsideRun_iff] at hs ⊢
  obtain ⟨w, ⟨hpart, hli, -⟩, rx, bit, flow, wires, commands, h⟩ := advance_counts s
  rw [h]
  intro hne
  have hrun : w.part.stationState ≠ .run := by
    rw [count_part] at hne
    exact hne
  exact (count_toSend hrun).trans ((tick_toSend w.li).trans (hli ▸ hs (hpart ▸ hrun)))

theorem tick_silent {s : State} (hs : SilentOutsideRun s) : SilentOutsideRun (tick s) := by
  unfold tick
  split
  · exact hs
  · split
    · exact advance_silent hs
    · exact hs

/-- Settles O6: a command leaves RUN only through a reset or MUTE, which stop the transmitter, and outside RUN no command
but an entry to RUN gives it anything to send. -/
theorem stepKeepsSilenceOutsideRun : Obligations.StepKeepsSilenceOutsideRun := by
  intro s t hs h
  unfold step at h
  split at h
  next c rest _ => exact exec_silent (s := { s with pending := rest }) hs h
  · cases h
    exact tick_silent hs

/-! ### What the part holds until a reset (R36, R38, R41, R42, R44) -/

/-- The resets keep the fresh flag, but for power-on, which sets it (R41, R43). -/
theorem exec_reset_fresh {c : Instr} {s t : State} (hc : isReset c = true) (h : exec c s = .next t) :
    (c = .powerOn → t.part.fresh = true) ∧ (c ≠ .powerOn → t.part.fresh = s.part.fresh) := by
  cases c with
  | powerOn => cases h; exact ⟨fun _ => rfl, fun hne => absurd rfl hne⟩
  | pinReset | resetnFall => cases h; exact ⟨nofun, fun _ => rfl⟩
  | _ => cases hc

/-- But for the resets, a command keeps the station and the role, POWER_UP_END excepted, the settings, a CONFIGURE
excepted, and the fresh flag, which a CLEAR-FRESH may clear. -/
theorem exec_held {c : Instr} {s t : State} (hreset : isReset c = false) (h : exec c s = .next t) :
    ((∀ n a b, c ≠ .powerUpEnd n a b) → t.part.station = s.part.station ∧ t.part.role = s.part.role) ∧
    ((∀ p, c ≠ .configure p) → t.part.settings = s.part.settings) ∧
    ((∀ p, c ≠ .clearFresh p) → t.part.fresh = s.part.fresh) ∧ (t.part.fresh = s.part.fresh ∨ t.part.fresh = false) := by
  rcases instr_families c with hc | ⟨n, a, b, rfl⟩ | hc | hc | ⟨header, k, p, hc⟩ | ⟨k, p, hc⟩ | hc
  · simp [hc] at hreset
  · simp only [exec, execPowerUpEnd] at h
    split at h <;> cases h <;> simp
  · simp [exec_actsInRunOnly_part hc h]
  · obtain ⟨li, rfl, -⟩ := exec_lineEvent hc h
    simp
  · obtain rfl : receive header k p s = t := by simpa [exec_asFrame s hc] using h
    rcases receive_part header k p s with ⟨d, hd⟩ | ⟨cause, hd, -⟩ <;> simp [hd]
  · obtain rfl : decideRecord k p (ownRule k p) s = t := by simpa [exec_asRecord s hc] using h
    have hconfigure : k = .configure → ∃ p, c = .configure p := by rintro rfl; cases c <;> simp_all [asRecord]
    have hfresh : k = .clearFresh → ∃ p, c = .clearFresh p := by rintro rfl; cases c <;> simp_all [asRecord]
    rcases decideRecord_cases k p (ownRule k p) s with ⟨fp, hd⟩ | ⟨hd, -⟩ <;> rw [hd]
    · simp
    · rcases ownRule_part k p (hunting s) with ⟨d, f, hpart, hkept, hcleared⟩ | ⟨settings, hpart, hk⟩ <;>
        simp only [hpart, hunting_frame, true_and]
      · exact ⟨fun _ => trivial, fun _ => trivial,
          fun hne => hkept fun hk => (hfresh hk).elim fun p hp => hne p hp, hcleared⟩
      · refine ⟨fun _ => trivial, fun hne => ?_, fun _ => trivial, .inl trivial⟩
        rcases hk with hk | ⟨-, hk⟩
        · exact (hconfigure hk).elim fun p hp => absurd hp (hne p)
        · exact hk.symm
  · simp [exec_rest_frame hc h]

/-! ### A muted station (R40) -/

/-- In MUTE a frame changes the line interface alone (R13). -/
theorem receive_muted {s : State} (hs : s.part.stationState = .mute) (h : FrameHeader) (k : Nat) (p : List Byte) :
    ∃ li, receive h k p s = { s with li := li } ∧ li.toSend = s.li.toSend := by
  rcases receive_cases h k p s with hr | hr | ⟨-, hr⟩ | ⟨hne, -⟩
  · exact ⟨_, hr, rfl⟩
  · exact ⟨_, hr, rfl⟩
  · exact ⟨_, hr, rfl⟩
  · simp [hs] at hne

/-- In MUTE a record changes the field port alone: R184 lets none but STATUS-REQUEST through. -/
theorem decideRecord_muted {s : State} (hs : s.part.stationState = .mute) (k : RecordKind) (p : List Byte) :
    ∃ fp, decideRecord k p (ownRule k p) s = { s with fp := fp } := by
  cases k with
  | statusRequest =>
    rcases decideRecord_cases .statusRequest p (ownRule .statusRequest p) s with ⟨fp, hd⟩ | ⟨hd, -⟩
    · exact ⟨fp, hd⟩
    · rw [hd]
      simp only [ownRule, ownStatusRequest]
      (repeat' split) <;> exact ⟨_, rfl⟩
  | _ => exact decideRecord_outside_run (by simp [stateServes, hs])

/-- But for the resets, a command changes the line interface and the field port of a muted station alone, and gives its
transmitter nothing to send. -/
theorem exec_muted {c : Instr} {s t : State} (hs : s.part.stationState = .mute) (hsilent : SilentOutsideRun s)
    (hreset : isReset c = false) (h : exec c s = .next t) :
    ∃ li fp, t = { s with li := li, fp := fp } ∧ li.toSend = s.li.toSend := by
  have hrun : s.part.stationState ≠ .run := by simp [hs]
  rcases instr_families c with hc | ⟨n, a, b, rfl⟩ | hc | hc | ⟨header, k, p, hc⟩ | ⟨k, p, hc⟩ | hc
  · simp [hc] at hreset
  · simp only [exec, execPowerUpEnd, hs] at h
    cases h
    exact ⟨_, _, rfl, rfl⟩
  · cases (exec_outside_run hc hrun (hsilent hrun).1).symm.trans h
    exact ⟨_, _, rfl, rfl⟩
  · obtain ⟨li, rfl, hli⟩ := exec_lineEvent hc h
    exact ⟨_, _, rfl, hli⟩
  · obtain rfl : receive header k p s = t := by simpa [exec_asFrame s hc] using h
    obtain ⟨li, hr, hli⟩ := receive_muted hs header k p
    exact ⟨_, _, hr, hli⟩
  · obtain rfl : decideRecord k p (ownRule k p) s = t := by simpa [exec_asRecord s hc] using h
    obtain ⟨fp, hd⟩ := decideRecord_muted hs k p
    exact ⟨_, _, hd, rfl⟩
  · rcases hc with ⟨n, rfl⟩ | rfl | rfl | ⟨b, rfl⟩ | ⟨b, rfl⟩ | rfl
    · simp only [exec, execPeerSilenceExpiry, peerTimersRun, hs] at h
      cases h
      exact ⟨_, _, rfl, rfl⟩
    · simp only [exec, execRecordGapTimeout, discardRecord] at h
      split at h <;> cases h <;> exact ⟨_, _, rfl, rfl⟩
    · simp only [exec, execRecordDiscard, discardRecord] at h
      split at h <;> cases h <;> exact ⟨_, _, rfl, rfl⟩
    · simp only [exec, execRecordChecksumError] at h
      split at h <;> cases h <;> exact ⟨_, _, rfl, rfl⟩
    · simp only [exec, execRecordUnknownKind] at h
      split at h <;> cases h <;> exact ⟨_, _, rfl, rfl⟩
    · simp only [exec, execOutboundItemSent] at h
      split at h <;> cases h <;> exact ⟨_, _, rfl, rfl⟩

/-- Settles O5: in MUTE a command reaches the line interface and the field port at most, and what the part holds is told
family by family. -/
theorem stationStateIsHeld : Obligations.StationStateIsHeld := by
  refine ⟨fun c s t hs hsilent hreset h => ?_, fun c s t h => ?_⟩
  · obtain ⟨li, fp, rfl, hli⟩ := exec_muted hs hsilent hreset h
    have hidle := (silent_iff li).1 (hli.trans ((silentOutsideRun_iff s).1 hsilent (by simp [hs])))
    exact ⟨rfl, rfl, rfl, rfl, rfl, rfl, rfl, rfl, rfl, hidle.1, hidle.2.2.1⟩
  · cases hreset : isReset c with
    | true =>
      obtain ⟨hpower, hkept⟩ := exec_reset_fresh hreset h
      exact ⟨nofun, hpower, fun hne _ => hkept hne, fun p hp => by simp [hp, isReset] at hreset⟩
    | false =>
      obtain ⟨hstation, hsettings, hfresh, hcleared⟩ := exec_held hreset h
      exact ⟨fun _ => ⟨hstation, hsettings⟩, fun hp => by simp [hp, isReset] at hreset, fun _ => hfresh,
        fun _ _ => hcleared⟩

end Sys2Proof.Machine
end

section
/-! PROOFS. What the shared operations and the units' operations do to the transmit queue, the outbound queue and the
monitors, said once for every predicate that the few primitive changes keep (R10, R123, R169 to R172, R186). -/

namespace Sys2Proof.Machine

/-- "A latched monitor is active", in LATCHED mode, and its count is at most its qualification (R169, R170, R175). -/
def MonitorRec.Sound (r : MonitorRec) : Prop :=
  (r.latched = true → r.active = true ∧ r.mode = some .latched) ∧ r.count ≤ r.qual

theorem monitorsSound_iff (s : State) : MonitorsSound s ↔ ∀ i, (mon s i).Sound := Iff.rfl

/-- An attribution's observation keeps a record sound (R135, R136). -/
theorem MonitorRec.Sound.observeJuice {r : MonitorRec} (h : r.Sound) (j : Nat) :
    (observeJuice j r).Sound := by
  obtain ⟨hlatched, hcount⟩ := h
  unfold Machine.observeJuice
  dsimp only
  (repeat' split) <;> simp_all [MonitorRec.Sound, MonitorRec.counted]

/-- The commands that place a reply: the records, whole or damaged. -/
def placesReply : Instr → Bool
  | .recordChecksumError _ | .recordUnknownKind _ => true
  | c => (asRecord c).isSome

/-- A command that places a reply does nothing in the hold of R187. -/
theorem exec_placesReply_hold {s : State} {c : Instr} {t : State} (hc : placesReply c = true)
    (htakes : fieldPortTakes s = false) (he : exec c s = .next t) : t = s := by
  cases hr : asRecord c with
  | some r =>
    obtain ⟨k, p⟩ := r
    rw [exec_asRecord s hr] at he
    cases he
    simp [decideRecord, htakes]
  | none =>
    cases c with
    | recordChecksumError | recordUnknownKind =>
      simp only [exec, execRecordChecksumError, execRecordUnknownKind, htakes] at he
      cases he
      rfl
    | _ => simp [placesReply, hr] at hc

/-- A predicate on states that the primitive changes keep: a transmit queue no longer, a notice that joins it below 8, an
outbound queue no longer, an event placed below 15, a monitor record turned or changed, and changes of blocks that
it does not read. -/
structure KeptByOps (P : State → Prop) : Prop where
  line : ∀ {s : State} (li : LineInterface), P s → li.queue.length ≤ s.li.queue.length → P (s.setLi li)
  join : ∀ {s : State} (n : Notice) (ages : Option AgePair), P s → s.li.queue.length < Limits.transmitQueue →
    P (enqueue n ages s)
  port : ∀ {s : State} (fp : FieldPort), P s → fp.out.length ≤ s.fp.out.length → P (s.setFp fp)
  event : ∀ {s : State} (ev : OutItem), P s → s.fp.out.length < Limits.eventPlaces → P (place ev s)
  record : ∀ {s : State} (i : MonitorId) (r : MonitorRec), P s → ((mon s i).Sound → r.Sound) →
    r.effective = (mon s i).effective → P (setMon i r s)
  turn : ∀ {s : State} (i : MonitorId) (r : MonitorRec), P s → ((mon s i).Sound → r.Sound) →
    P (syncPause i (setMon i r s))
  units : ∀ {s t : State}, P s → t.part.stationState = s.part.stationState → t.li = s.li → t.mu = s.mu →
    t.fp = s.fp → t.ja.isOpen = s.ja.isOpen → t.ja.isPaused = s.ja.isPaused → P t
  opened : ∀ {s : State}, P s → P (openPeriod s)
  muted : ∀ {s : State} (part : Part), P s → part.stationState = .mute →
    P { s with part := part, li := s.li.stopped, mu := s.mu.cleared }
  left : ∀ {s : State} (part : Part), P s → part.stationState ≠ .run → P (s.setPart part)
  started : ∀ {s : State} (c : Settings), P s → P (startUnits c s)

namespace KeptByOps

variable {P : State → Prop} (hk : KeptByOps P) {s : State}
include hk

theorem setWu (x : WeighUnit) (h : P s) : P (s.setWu x) := hk.units h rfl rfl rfl rfl rfl rfl

theorem setTu (x : TipUnit) (h : P s) : P (s.setTu x) := hk.units h rfl rfl rfl rfl rfl rfl

theorem setCc (x : CarrierCounter) (h : P s) : P (s.setCc x) := hk.units h rfl rfl rfl rfl rfl rfl

theorem setCl (x : CrushLine) (h : P s) : P (s.setCl x) := hk.units h rfl rfl rfl rfl rfl rfl

theorem setRa (x : RecordAssembler) (h : P s) : P (s.setRa x) := hk.units h rfl rfl rfl rfl rfl rfl

/-! ### Events and monitors -/

theorem emit (ev : OutItem) (h : P s) : P (emit ev s) := by
  unfold Machine.emit
  split
  · exact hk.port _ h le_rfl
  next hroom => exact hk.event ev h (not_le.1 hroom)

theorem activate (i : MonitorId) (h : P s) : P (activate i s) := by
  unfold Machine.activate
  split
  · exact h
  · refine hk.emit _ (hk.turn i _ h fun hsound => ⟨fun hlatched => ⟨rfl, ?_⟩, hsound.2⟩)
    simpa using hlatched

theorem finish (i : MonitorId) (h : P s) : P (finish i s) := by
  unfold Machine.finish
  split
  · exact hk.emit _ (hk.turn i _ h fun hsound => ⟨nofun, hsound.2⟩)
  · exact h

theorem conditionStarts (i : MonitorId) (h : P s) : P (conditionStarts i s) :=
  hk.activate i (hk.record i _ h id rfl)

theorem conditionEnds (i : MonitorId) (h : P s) : P (conditionEnds i s) :=
  hk.finish i (hk.record i _ h id rfl)

theorem observe (i : MonitorId) (h : P s) : P (observe i s) := by
  have hcounted : P (setMon i (mon s i).counted s) :=
    hk.record i _ h (fun hsound => ⟨hsound.1, min_le_right _ _⟩) rfl
  unfold Machine.observe
  dsimp only
  split
  · split
    · exact hk.activate i hcounted
    · exact hcounted
  · exact h

theorem observeContrary (i : MonitorId) (h : P s) : P (observeContrary i s) := by
  unfold Machine.observeContrary
  split
  · exact hk.record i _ h (fun hsound => ⟨hsound.1, Nat.zero_le _⟩) rfl
  · exact h

theorem endingEvent (i : MonitorId) (h : P s) : P (endingEvent i s) := by
  unfold Machine.endingEvent
  split
  · exact hk.finish i h
  · exact h

/-! ### The transmit queue and the part -/

theorem setCounters (c : LineCounters) (h : P s) : P (setCounters c s) := hk.line _ h le_rfl

theorem countMalformed (h : P s) : P (countMalformed s) := hk.setCounters _ h

theorem dropFrame (h : P s) : P (dropFrame s) := hk.conditionEnds _ (hk.line _ h le_rfl)

theorem takeQueueHead (h : P s) : P (takeQueueHead s) := by
  unfold Machine.takeQueueHead
  split
  · exact hk.line _ h le_rfl
  · exact h

theorem abandonWaitingBeacon (h : P s) : P (abandonWaitingBeacon s) := by
  unfold Machine.abandonWaitingBeacon
  split
  · exact hk.dropFrame h
  · exact h

theorem offer (n : Notice) (ages : Option AgePair) (h : P s) : P (offer n ages s) := by
  unfold Machine.offer
  split
  next hroom => exact hk.takeQueueHead (hk.abandonWaitingBeacon (hk.join n ages h hroom))
  · exact hk.emit _ (hk.setCounters _ h)

theorem reportPeerSilent (h : P s) : P (reportPeerSilent s) := by
  unfold Machine.reportPeerSilent
  split
  · split
    · exact hk.conditionStarts _ h
    · exact hk.conditionEnds _ h
  · exact h

theorem adoptDay (d : Nat) (h : P s) : P (adoptDay d s) := by
  unfold Machine.adoptDay
  split
  · exact h
  · have hday : P (Machine.emit (.dayChanged s.part.day d) (s.setPart { s.part with day := d })) :=
      hk.emit _ (hk.units h rfl rfl rfl rfl rfl rfl)
    dsimp only
    split
    · exact hk.units hday rfl rfl rfl rfl rfl rfl
    · exact hday

theorem foldl_emit {α : Type} (ev : α → OutItem) (l : List α) (h : P s) :
    P (l.foldl (fun t a => Machine.emit (ev a) t) s) :=
  List.foldlRecOn (motive := P) l _ h fun _ ht a _ => hk.emit (ev a) ht

theorem enterMute (cause : MuteCause) (h : P s) : P (enterMute cause s) :=
  hk.muted _ (hk.foldl_emit (fun i => .monitor i false) _ h) rfl

/-! ### The juice attributor and the crush line -/

theorem attributeCane (j : Nat) (shares : List Share) (h : P s) : P (attributeCane j shares s) := by
  have hobserved : P (setMon .meterSilent (observeJuice j (mon s .meterSilent)) s) :=
    hk.turn .meterSilent _ h fun hsound => hsound.observeJuice j
  unfold Machine.attributeCane
  dsimp only
  split
  · split <;> exact hk.units hobserved rfl rfl rfl rfl rfl rfl
  · exact hk.units hobserved rfl rfl rfl rfl rfl rfl

theorem releaseLots (h : P s) : P (releaseLots s) :=
  List.foldlRecOn (motive := P) (s.cl.lots.filter Lot.released) _ (hk.units h rfl rfl rfl rfl rfl rfl)
    fun _ ht _ _ => hk.offer _ _ ht

theorem attribution (j : Nat) (number : BitVec 32) (h : P s) : P (attribution j number s) := by
  unfold Machine.attribution
  split
  · exact hk.units h rfl rfl rfl rfl rfl rfl
  next b _ =>
    have hpath : P (if shareSum b.shares = 0 then unallocate j s else Machine.attributeCane j b.shares s) := by
      split
      · exact hk.units h rfl rfl rfl rfl rfl rfl
      · exact hk.attributeCane j b.shares h
    dsimp only
    split
    · exact hk.units hpath rfl rfl rfl rfl rfl rfl
    · exact hk.releaseLots (hk.units hpath rfl rfl rfl rfl rfl rfl)

theorem closePeriod (forced : Bool) (h : P s) : P (closePeriod forced s) := by
  have hattributed := hk.attribution (settledGrams s / 1000) (s.ja.k - BitVec.ofNat 32 (millCfg s).lag)
    (hk.units (t := settlePeriod forced s) h rfl rfl rfl rfl rfl rfl)
  refine hk.conditionEnds _ (hk.opened ?_)
  unfold reportMeterSilent
  split
  · exact hattributed
  · exact hk.emit _ hattributed

theorem givePortion (k : LotKey) (h : P s) : P (givePortion k s) := by
  have hroom : P (roomForShare k s) := by
    unfold roomForShare
    split
    · exact hk.closePeriod true h
    · exact h
  unfold Machine.givePortion
  dsimp only
  split
  · exact hroom
  · exact hk.units hroom rfl rfl rfl rfl rfl rfl

theorem advanceMouth (p : Position) (h : P s) : P (advanceMouth p s) :=
  List.foldlRecOn (motive := P) (s.cl.lots.filter (Lot.covers p)) _ h fun _ ht l _ => hk.givePortion l.lot ht

theorem crushPositions (k : LotKey) (n : Nat) (h : P s) : P (crushPositions k n s) := by
  induction n generalizing s with
  | zero => exact h
  | succ n ih => exact ih (hk.givePortion k h)

theorem placeLot (n : TipNotice) (mass : Nat) (corrected : Bool) (h : P s) : P (placeLot n mass corrected s) := by
  unfold Machine.placeLot
  dsimp only
  split
  · exact hk.offer _ _ (hk.emit _ (hk.units h rfl rfl rfl rfl rfl rfl))
  · split
    · exact hk.crushPositions _ _ (hk.units h rfl rfl rfl rfl rfl rfl)
    · exact hk.units h rfl rfl rfl rfl rfl rfl

theorem takeTip (n : TipNotice) (h : P s) : P (takeTip n s) := by
  unfold Machine.takeTip
  split
  · exact hk.countMalformed h
  · split
    · exact hk.placeLot _ _ _ (hk.units h rfl rfl rfl rfl rfl rfl)
    · exact hk.placeLot _ _ _ h

theorem takeNetAtMill (n : NetNotice) (h : P s) : P (takeNetAtMill n s) := by
  unfold Machine.takeNetAtMill enterPendingNet
  dsimp only
  (repeat' split)
  case _ => exact hk.units h rfl rfl rfl rfl rfl rfl
  case _ => exact h
  case _ => exact hk.units h rfl rfl rfl rfl rfl rfl
  case _ => exact hk.countMalformed (hk.units h rfl rfl rfl rfl rfl rfl)
  case _ => exact hk.units h rfl rfl rfl rfl rfl rfl

theorem takeDayEndAtMill (n : DayEndNotice) (h : P s) : P (takeDayEndAtMill n s) :=
  hk.units (hk.offer _ _ h) rfl rfl rfl rfl rfl rfl

/-! ### The carrier counter -/

theorem forwardStep (h : P s) : P (forwardStep s) := by
  unfold Machine.forwardStep netForwardStep
  dsimp only
  split
  · split
    · exact hk.line _ (hk.setTu _ (hk.setCc _ h)) (by simp)
    · exact hk.advanceMouth _ (hk.units h rfl rfl rfl rfl rfl rfl)
  · split
    · exact hk.conditionEnds _ (hk.units h rfl rfl rfl rfl rfl rfl)
    · exact hk.units h rfl rfl rfl rfl rfl rfl

theorem reverseStep (h : P s) : P (reverseStep s) := by
  unfold Machine.reverseStep markOverrun
  split
  · exact hk.units h rfl rfl rfl rfl rfl rfl
  · split
    · exact hk.conditionStarts _ h
    · exact hk.units (hk.conditionStarts _ h) rfl rfl rfl rfl rfl rfl

theorem stallObservation (h : P s) : P (stallObservation s) :=
  hk.observe _ (hk.units h rfl rfl rfl rfl rfl rfl)

theorem stallEnds (h : P s) : P (stallEnds s) := hk.endingEvent _ (hk.observeContrary _ h)

theorem measurePulse (h : P s) : P (measurePulse s) := by
  unfold Machine.measurePulse liveObservation
  dsimp only
  split
  · exact hk.units h rfl rfl rfl rfl rfl rfl
  · split
    · split
      · exact hk.stallEnds (hk.units h rfl rfl rfl rfl rfl rfl)
      · exact hk.units h rfl rfl rfl rfl rfl rfl
    · exact hk.units h rfl rfl rfl rfl rfl rfl

theorem stepPulse (forward : Bool) (h : P s) :
    P (Machine.measurePulse (countRunPulse (if forward then Machine.forwardStep s else Machine.reverseStep s))) := by
  refine hk.measurePulse (hk.setCc _ ?_)
  cases forward with
  | true => exact hk.forwardStep h
  | false => exact hk.reverseStep h

/-! ### The tip unit and the weigh unit -/

theorem tipLot (a : Arming) (h : P s) : P (tipLot a s) :=
  hk.units (hk.emit _ (hk.offer _ _ h)) rfl rfl rfl rfl rfl rfl

theorem takeGrossAtTip (n : GrossNotice) (h : P s) : P (takeGrossAtTip n s) := by
  unfold Machine.takeGrossAtTip
  dsimp only
  split
  · exact hk.countMalformed h
  · split
    · exact hk.countMalformed (hk.units h rfl rfl rfl rfl rfl rfl)
    · exact hk.units h rfl rfl rfl rfl rfl rfl

theorem takeVehicle (v : Vehicle) (h : P s) : P (takeVehicle v s) := by
  unfold Machine.takeVehicle
  dsimp only
  split
  · exact hk.units (hk.emit _ h) rfl rfl rfl rfl rfl rfl
  · exact hk.units h rfl rfl rfl rfl rfl rfl

theorem tareCapture (mass : Nat) (v : Vehicle) (h : P s) : P (tareCapture mass v s) := by
  unfold Machine.tareCapture
  dsimp only
  split
  · exact hk.units (hk.offer _ _ h) rfl rfl rfl rfl rfl rfl
  · exact hk.units (hk.emit _ h) rfl rfl rfl rfl rfl rfl

theorem completeCapture (mass : Nat) (h : P s) : P (completeCapture mass s) := by
  have hcaptured := hk.emit (.captured mass) (hk.units (t := s.setWu { s.wu with
    capture := .idle, vehicle := none, runCount := 0, runCentre := none, zeroSeen := false }) h rfl rfl rfl rfl rfl rfl)
  unfold Machine.completeCapture
  dsimp only
  split
  · split
    · exact hk.offer _ _ (hk.units hcaptured rfl rfl rfl rfl rfl rfl)
    · exact hk.tareCapture _ _ hcaptured
  · exact hcaptured

theorem captureStep (r : Reading) (h : P s) : P (captureStep r s) := by
  unfold Machine.captureStep startRun
  dsimp only
  (repeat' split)
  case _ => exact h
  case _ => exact hk.units h rfl rfl rfl rfl rfl rfl
  case _ => exact h
  case _ => exact hk.completeCapture _ h
  all_goals exact hk.units h rfl rfl rfl rfl rfl rfl

theorem takeReading (r : Reading) (h : P s) : P (takeReading r s) := by
  have hzero : P (zeroStep r s) := by
    unfold zeroStep
    split
    · exact hk.units h rfl rfl rfl rfl rfl rfl
    · exact h
  have hcaptured := hk.captureStep r hzero
  unfold Machine.takeReading scaleOverStep
  dsimp only
  split
  · exact hk.observe _ hcaptured
  · split
    · exact hk.endingEvent _ (hk.observeContrary _ hcaptured)
    · exact hk.observeContrary _ hcaptured

theorem expireOpen (e : OpenEntry) (h : P s) : P (expireOpen e s) :=
  hk.setWu _ (hk.offer _ _ (hk.setWu _ h))

theorem takeGrossAtExit (n : GrossNotice) (h : P s) : P (takeGrossAtExit n s) := by
  unfold Machine.takeGrossAtExit
  split
  · exact hk.countMalformed h
  · split
    · split
      · exact hk.units (hk.expireOpen _ h) rfl rfl rfl rfl rfl rfl
      · exact hk.units h rfl rfl rfl rfl rfl rfl
    · exact hk.units h rfl rfl rfl rfl rfl rfl

/-! ### The record assembler -/

theorem enterStore (c : Closed) (h : P s) : P (enterStore c s) := by
  unfold Machine.enterStore
  extract_lets _ stored
  have hstored : P stored := hk.setRa _ h
  split
  · exact hk.conditionStarts _ hstored
  · exact hstored

theorem enterWhileRoom (l : List Closed) (h : P s) : P (enterWhileRoom l s) := by
  induction l generalizing s with
  | nil => exact hk.setRa _ h
  | cons c l ih =>
    unfold Machine.enterWhileRoom
    split
    · exact ih (hk.enterStore c h)
    · exact hk.setRa _ h

theorem makeReady (c : Closed) (h : P s) : P (makeReady c s) :=
  hk.enterWhileRoom _ (hk.units h rfl rfl rfl rfl rfl rfl)

theorem closeEntry (cause : CloseCause) (e : AsmEntry) (h : P s) : P (closeEntry cause e s) :=
  hk.makeReady _ (hk.units h rfl rfl rfl rfl rfl rfl)

theorem applied (e : AsmEntry) (h : P s) : P (applied e s) := by
  unfold Machine.applied
  dsimp only
  split
  · exact hk.closeEntry _ _ (hk.units h rfl rfl rfl rfl rfl rfl)
  · exact hk.units h rfl rfl rfl rfl rfl rfl

theorem applyTo (f : EntryChange) (e : AsmEntry) (h : P s) : P (applyTo f e s) := by
  unfold Machine.applyTo
  split
  · exact hk.applied _ h
  · exact hk.countMalformed h

theorem labApply (k : Key) (f : EntryChange) (h : P s) : P (labApply k f s) := by
  unfold Machine.labApply
  (repeat' split)
  case _ => exact hk.countMalformed h
  case _ => exact hk.countMalformed h
  case _ => exact hk.applyTo f _ h
  case _ => exact hk.applyTo f _ (hk.units h rfl rfl rfl rfl rfl rfl)
  case _ => exact hk.countMalformed h

theorem endWait (w : SummaryWait) (mill : Option MillCounters) (h : P s) : P (endWait w mill s) :=
  hk.makeReady _ (hk.units h rfl rfl rfl rfl rfl rfl)

theorem takeDaySummary (n : DaySummary) (h : P s) : P (takeDaySummary n s) := by
  unfold Machine.takeDaySummary
  split
  · split
    · exact hk.endWait _ _ h
    · exact h
  · exact h

theorem takeRelease (n : Nat) (h : P s) : P (takeRelease n s) := by
  have hmoved : P (moveReady (s.setRa { s.ra with store := s.ra.store.drop n, readCount := s.ra.readCount - n })) :=
    hk.enterWhileRoom _ (hk.units h rfl rfl rfl rfl rfl rfl)
  unfold Machine.takeRelease decideStoreFull
  split
  · exact hk.conditionEnds _ hmoved
  · exact hmoved

theorem takeDayEndRecord (h : P s) : P (takeDayEndRecord s) :=
  hk.setRa _ (hk.adoptDay _ (hk.setRa _ (hk.offer _ _ h)))

/-! ### Reception -/

theorem actOn (sender : Role) (r : Received) (h : P s) : P (actOn sender r s) := by
  unfold Machine.actOn
  split
  case h_1 =>
    unfold takeBeacon
    split
    · exact hk.adoptDay _ h
    · exact h
  case h_2 n =>
    unfold takeGross
    (repeat' split)
    case _ => exact hk.takeGrossAtExit n h
    case _ => exact hk.takeGrossAtTip n h
    case _ => exact hk.labApply _ _ h
    case _ => exact h
  case h_3 n =>
    unfold takeNet
    (repeat' split)
    case _ => exact hk.units h rfl rfl rfl rfl rfl rfl
    case _ => exact hk.takeNetAtMill n h
    case _ => exact hk.labApply _ _ h
    case _ => exact h
  case h_4 n =>
    split
    · exact hk.takeTip n h
    · exact h
  case h_5 n =>
    split
    · exact hk.labApply _ _ h
    · exact h
  case h_6 n =>
    have hday : P (if s.part.role = some .lab then s else Machine.adoptDay n.newDay s) := by
      split
      · exact h
      · exact hk.adoptDay _ h
    unfold takeDayEndNotice
    dsimp only
    split
    · exact hk.takeDayEndAtMill n hday
    · exact hday
  case h_7 n =>
    split
    · exact hk.takeDaySummary n h
    · exact h

theorem receive (header : FrameHeader) (k : Nat) (p : List Byte) (h : P s) : P (receive header k p s) := by
  have htaken : P (frameTaken s) := hk.line _ h le_rfl
  have hheard (sender : Role) : P (heard sender header k p s) :=
    hk.reportPeerSilent (hk.units htaken rfl rfl rfl rfl rfl rfl)
  rcases receive_cases header k p s with hr | hr | ⟨-, hr⟩ | ⟨-, hr | ⟨sender, hr | hr⟩⟩ <;> rw [hr]
  · exact h
  · exact hk.setCounters _ htaken
  · exact htaken
  · exact hk.enterMute _ htaken
  · exact hk.enterMute _ (hheard sender)
  · rcases checkNotice_cases header sender k p (heard sender header k p s) with hc | hc | ⟨r, -, hc⟩ <;> rw [hc]
    · exact hk.setCounters _ (hheard sender)
    · exact hk.countMalformed (hheard sender)
    · exact hk.actOn sender r (hheard sender)

/-! ### Commands without a reply -/

theorem enterRun (c : Settings) (h : P s) : P (enterRun c s) := by
  unfold Machine.enterRun
  dsimp only
  split
  · exact hk.reportPeerSilent (hk.adoptDay _ (hk.started c h))
  · exact hk.reportPeerSilent (hk.started c h)

/-- The commands of the transmitter, the beacons and the role units keep P. -/
theorem exec_actsInRunOnly {c : Instr} {t : State} (hc : actsInRunOnly c = true) (h : P s)
    (he : exec c s = .next t) : P t := by
  cases c with
  | attemptStart =>
    simp only [exec, execAttemptStart] at he
    split at he
    · split at he <;> cases he
      · refine hk.line _ h ?_
        dsimp only
        split
        · cases hq : s.li.queue <;> simp [markBegun]
        · exact le_rfl
      · exact h
    · cases he; exact h
  | attemptComplete =>
    simp only [exec, execAttemptComplete] at he
    split at he <;> cases he
    · have hdropped := hk.dropFrame (s := ownFrameEnds s) (hk.line _ h le_rfl)
      refine hk.takeQueueHead ?_
      unfold completeFrame
      (repeat' split)
      case _ hq _ => exact hk.emit _ (hk.line _ hdropped (by simp [hq]))
      case _ hq _ => exact hk.line _ hdropped (by simp [hq])
      case _ => exact hdropped
      case _ => exact hk.line _ hdropped le_rfl
      all_goals exact hdropped
    · exact h
  | collision =>
    simp only [exec, execCollision] at he
    split at he <;> cases he
    · have hended : P (ownFrameEnds s) := hk.line _ h le_rfl
      split
      · exact hk.conditionStarts _ (hk.line _ hended le_rfl)
      · exact hk.line _ hended le_rfl
    · exact h
  | collisionMarkEnd =>
    simp only [exec, execCollisionMarkEnd] at he
    split at he <;> cases he
    · exact hk.line _ h le_rfl
    · exact h
  | backoffEnd =>
    simp only [exec, execBackoffEnd] at he
    split at he
    · split at he <;> cases he
      · exact hk.takeQueueHead (hk.dropFrame h)
      · exact hk.line _ h le_rfl
    · cases he; exact h
  | startedBeaconDue =>
    simp only [exec, execStartedBeaconDue] at he
    split at he <;> cases he
    · exact hk.line _ (hk.line _ h le_rfl) le_rfl
    · exact h
  | regularBeaconDue =>
    simp only [exec, execRegularBeaconDue] at he
    split at he <;> cases he
    · split
      · exact hk.line _ (hk.line _ h le_rfl) le_rfl
      · exact hk.line _ h le_rfl
    · exact h
  | peerAbsenceTimeout =>
    simp only [exec, execPeerAbsenceTimeout] at he
    split at he <;> cases he
    · exact hk.reportPeerSilent (hk.units h rfl rfl rfl rfl rfl rfl)
    · exact h
  | openEntryExpiry key =>
    simp only [exec, execOpenEntryExpiry] at he
    split at he
    · split at he <;> cases he
      · exact hk.expireOpen _ h
      · exact h
    · cases he; exact h
  | awaitingEntryExpiry key =>
    simp only [exec, execAwaitingEntryExpiry] at he
    split at he <;> cases he
    · exact hk.setTu _ h
    · exact h
  | tippingActive =>
    simp only [exec, execTippingActive] at he
    split at he <;> cases he
    · refine hk.setTu _ ?_
      split
      · exact h
      · exact hk.setTu _ h
    · exact h
  | minTipTimeExpiry =>
    simp only [exec, execMinTipTimeExpiry] at he
    split at he <;> cases he
    · exact hk.setTu _ h
    · exact h
  | tippingRelease =>
    simp only [exec, execTippingRelease] at he
    (repeat' split at he) <;> cases he
    · exact hk.tipLot _ h
    · exact hk.setTu _ h
    · exact hk.setTu _ h
    · exact h
  | stepPulse forward =>
    simp only [exec, execStepPulse] at he
    split at he <;> cases he
    · exact hk.stepPulse forward h
    · exact h
  | speedSaturation =>
    simp only [exec, execSpeedSaturation] at he
    split at he <;> cases he
    · split
      · exact hk.stallObservation (hk.setCc _ h)
      · exact hk.setCc _ h
    · exact h
  | stallQuietInterval =>
    simp only [exec, execStallQuietInterval] at he
    split at he <;> cases he
    · exact hk.stallObservation h
    · exact h
  | runContactActive =>
    simp only [exec, execRunContactActive] at he
    split at he <;> cases he
    · exact hk.record _ _ (hk.setCc _ h) (fun hsound => ⟨hsound.1, Nat.zero_le _⟩) rfl
    · exact h
  | runContactRelease =>
    simp only [exec, execRunContactRelease] at he
    split at he <;> cases he
    · exact hk.stallEnds (hk.setCc _ h)
    · exact h
  | startAllowanceExpiry =>
    simp only [exec, execStartAllowanceExpiry] at he
    split at he <;> cases he
    · exact hk.stallObservation (hk.setCc _ h)
    · exact h
  | flowPulse =>
    simp only [exec, execFlowPulse] at he
    (repeat' split at he) <;> cases he
    · exact hk.units h rfl rfl rfl rfl rfl rfl
    · exact hk.conditionStarts _ (hk.units h rfl rfl rfl rfl rfl rfl)
    · exact h
  | periodTimerExpiry =>
    simp only [exec, execPeriodTimerExpiry] at he
    split at he <;> cases he
    · exact hk.closePeriod _ h
    · exact h
  | pauseLimitExpiry =>
    simp only [exec, execPauseLimitExpiry] at he
    split at he <;> cases he
    · exact hk.closePeriod _ h
    · exact h
  | completionTimerExpiry key =>
    simp only [exec, execCompletionTimerExpiry] at he
    (repeat' split at he) <;> cases he
    · exact hk.closeEntry _ _ h
    all_goals exact h
  | notCrushedAgeExpiry key =>
    simp only [exec, execNotCrushedAgeExpiry] at he
    (repeat' split at he) <;> cases he
    · exact hk.closeEntry _ _ h
    all_goals exact h
  | summaryWaitExpiry =>
    simp only [exec, execSummaryWaitExpiry] at he
    (repeat' split at he) <;> cases he
    · exact hk.endWait _ _ h
    all_goals exact h
  | _ => cases hc

/-! ### Records and their replies -/

/-- An owning rule keeps P until its reply: what the reply makes of P, the rule makes of it. -/
theorem ownRule {Q : State → Prop} (hreply : ∀ {u : State} (kind : Byte) (code : ReplyCode) (detail : Nat), P u →
    Q (place (.reply kind code detail) u)) (hq : ∀ {u : State}, P u → Q u) (k : RecordKind) (p : List Byte) (h : P s) :
    Q (ownRule k p s) := by
  cases k with
  | configure =>
    simp only [Machine.ownRule, ownConfigure]
    split
    · exact hq h
    · split
      · exact hreply _ _ _ h
      · exact hreply _ _ _ (hk.enterRun _ h)
  | statusRequest =>
    simp only [Machine.ownRule, ownStatusRequest]
    (repeat' split)
    case _ => exact hreply _ _ _ h
    case _ => exact hreply _ _ _ h
    case _ hroom => exact hreply _ _ _ (hk.event _ h (not_le.1 hroom))
  | clear =>
    refine hreply _ _ _ (List.foldlRecOn (motive := P) _ _ (List.foldlRecOn (motive := P) _ _ h ?_) ?_)
    · intro t ht i _
      unfold clearOne
      split
      · exact hk.finish i ht
      · exact ht
    · exact fun t ht i _ => hk.record i _ ht (fun hsound => ⟨hsound.1, Nat.zero_le _⟩) rfl
  | clearFresh => exact hreply _ _ _ (hk.units h rfl rfl rfl rfl rfl rfl)
  | restart =>
    refine hreply _ _ _ ?_
    have hkept : P (s.setFp { s.fp with out := s.fp.out.take 1 }) := hk.port _ h (by simp)
    unfold takeRestart
    dsimp only
    split
    · exact hk.enterRun _ hkept
    · exact hkept
  | vehicle =>
    simp only [Machine.ownRule, ownVehicle]
    (repeat' split)
    case _ => exact hreply _ _ _ h
    case _ => exact hreply _ _ _ h
    case _ => exact hreply _ _ _ h
    case _ => exact hreply _ _ _ (hk.takeVehicle _ h)
  | weight =>
    simp only [Machine.ownRule, ownWeight]
    split
    · exact hreply _ _ _ (hk.takeReading _ h)
    · exact hreply _ _ _ h
  | withdraw =>
    have herase (i : Nat) : P (s.setLi { s.li with queue := s.li.queue.eraseIdx i }) :=
      hk.line _ h (List.length_eraseIdx_le ..)
    simp only [Machine.ownRule, ownWithdraw]
    (repeat' split)
    case _ => exact hreply _ _ _ h
    case _ => exact hreply _ _ _ h
    case _ => exact hreply _ _ _ h
    case _ =>
      refine hreply _ _ _ ?_
      unfold takeWithdraw
      dsimp only
      split
      · exact hk.takeQueueHead (hk.dropFrame (herase _))
      · exact herase _
  | assign =>
    simp only [Machine.ownRule, ownAssign, takeAssign]
    (repeat' split)
    case _ => exact hreply _ _ _ h
    case _ => exact hreply _ _ _ h
    case _ => exact hreply _ _ _ h
    case _ => exact hreply _ _ _ h
    all_goals exact hreply _ _ _ (hk.setTu _ h)
  | disarm =>
    simp only [Machine.ownRule, ownDisarm]
    split
    · exact hreply _ _ _ h
    · exact hreply _ _ _ (hk.setTu _ h)
  | analysis =>
    simp only [Machine.ownRule, ownAnalysis]
    (repeat' split)
    case _ => exact hreply _ _ _ h
    case _ => exact hreply _ _ _ h
    case _ => exact hreply _ _ _ h
    case _ => exact hreply _ _ _ (hk.applied _ h)
  | dayEnd =>
    simp only [Machine.ownRule, ownDayEnd]
    split
    · exact hreply _ _ _ h
    · exact hreply _ _ _ (hk.takeDayEndRecord h)
  | read =>
    simp only [Machine.ownRule, ownRead]
    split
    · exact hreply _ _ _ h
    · split
      · exact hreply _ _ _ h
      next hroom => exact hreply _ _ _ (hk.event _ (hk.setRa _ h) (not_le.1 hroom))
  | release =>
    simp only [Machine.ownRule, ownRelease]
    split
    · exact hreply _ _ _ h
    · exact hreply _ _ _ (hk.takeRelease _ h)

theorem exec_placesReply {Q : State → Prop} (hreply : ∀ {u : State} (kind : Byte) (code : ReplyCode) (detail : Nat),
    P u → Q (place (.reply kind code detail) u)) (hq : ∀ {u : State}, P u → Q u) {c : Instr} {t : State}
    (hc : placesReply c = true) (h : P s) (he : exec c s = .next t) : Q t := by
  have hhunting : P (hunting s) := hk.port _ h le_rfl
  cases hr : asRecord c with
  | some r =>
    obtain ⟨k, p⟩ := r
    rw [exec_asRecord s hr] at he
    cases he
    unfold decideRecord
    split
    · split
      · exact hreply _ _ _ hhunting
      · exact hk.ownRule hreply hq k p hhunting
    · exact hq h
  | none =>
    cases c with
    | recordChecksumError | recordUnknownKind =>
      simp only [exec, execRecordChecksumError, execRecordUnknownKind] at he
      split at he <;> cases he
      · exact hreply _ _ _ hhunting
      · exact hq h
    | _ => simp [placesReply, hr] at hc

/-- Every command but the resets and those that place a reply keeps P. -/
theorem exec {c : Instr} {t : State} (hreset : isReset c = false) (hc : placesReply c = false) (h : P s)
    (he : exec c s = .next t) : P t := by
  rcases instr_families c with hf | ⟨n, a, b, rfl⟩ | hf | hf | ⟨header, k, p, hf⟩ | ⟨k, p, hf⟩ | hf
  · simp [hf] at hreset
  · simp only [Machine.exec, execPowerUpEnd] at he
    split at he <;> cases he
    · refine hk.port _ (hk.left _ h ?_) le_rfl
      split <;> simp
    · exact h
  · exact hk.exec_actsInRunOnly hf h he
  · obtain ⟨li, rfl, hli⟩ := exec_lineEvent hf he
    have hqueue : li.queue = s.li.queue := congrArg (fun x => x.2.2.1) hli
    exact hk.line li h (le_of_eq (congrArg _ hqueue))
  · obtain rfl : Machine.receive header k p s = t := by simpa [exec_asFrame s hf] using he
    exact hk.receive header k p h
  · cases c <;> simp [placesReply, asRecord] at hc hf
  · rcases hf with ⟨n, rfl⟩ | rfl | rfl | ⟨b, rfl⟩ | ⟨b, rfl⟩ | rfl
    · simp only [Machine.exec, execPeerSilenceExpiry] at he
      split at he <;> cases he
      · exact hk.reportPeerSilent (hk.units h rfl rfl rfl rfl rfl rfl)
      · exact h
    · simp only [Machine.exec, execRecordGapTimeout, discardRecord] at he
      split at he <;> cases he
      · exact hk.port _ (hk.port _ h le_rfl) le_rfl
      · exact h
    · simp only [Machine.exec, execRecordDiscard, discardRecord] at he
      split at he <;> cases he
      · exact hk.port _ (hk.port _ h le_rfl) le_rfl
      · exact h
    · simp [placesReply] at hc
    · simp [placesReply] at hc
    · simp only [Machine.exec, execOutboundItemSent] at he
      split at he <;> cases he
      · exact hk.port _ h (by simp)
      · exact h

end KeptByOps

end Sys2Proof.Machine
end

section
/-! PROOFS. The transmit queue, the outbound queue and the monitors stay within their rules (R10, R185, R123, R169 to
R172, R175): instances of the closure of `KeptByOps`, with the resets and the tick beside it. -/

namespace Sys2Proof.Machine

/-! ### The predicates -/

/-- The transmit queue holds at most 8 notices (R10). -/
def QueueWithin (s : State) : Prop := s.li.queue.length ≤ 8

/-- The outbound queue holds at most `n` items. -/
def OutWithin (n : Nat) (s : State) : Prop := s.fp.out.length ≤ n

/-- The monitor records are sound and the juice period follows CARRIER-STALL (R123, R169, R170, R175). -/
def MonitorsInOrder (s : State) : Prop := MonitorsSound s ∧ PauseFollowsStall s

theorem MonitorsSound.of_mu {s t : State} (h : MonitorsSound s) (hmu : t.mu = s.mu) : MonitorsSound t :=
  fun i => mon_eq i hmu ▸ h i

theorem PauseFollowsStall.of_eq {s t : State} (h : PauseFollowsStall s)
    (hstate : t.part.stationState = s.part.stationState)
    (heffective : (mon t .carrierStall).effective = (mon s .carrierStall).effective)
    (hopen : t.ja.isOpen = s.ja.isOpen) (hpaused : t.ja.isPaused = s.ja.isPaused) : PauseFollowsStall t := by
  intro hrun
  rw [hpaused, hopen, heffective]
  exact h (hstate ▸ hrun)

theorem MonitorsInOrder.of_eq {s t : State} (h : MonitorsInOrder s)
    (hstate : t.part.stationState = s.part.stationState) (hmu : t.mu = s.mu) (hopen : t.ja.isOpen = s.ja.isOpen)
    (hpaused : t.ja.isPaused = s.ja.isPaused) : MonitorsInOrder t :=
  ⟨.of_mu h.1 hmu, .of_eq h.2 hstate (by rw [mon_eq _ hmu]) hopen hpaused⟩

/-! ### What changes the monitor records -/

theorem monitorsSound_setMon {s : State} (i : MonitorId) {r : MonitorRec} (h : MonitorsSound s) (hr : r.Sound) :
    MonitorsSound (setMon i r s) := by
  intro j
  by_cases hj : j = i
  · rw [hj, mon_setMon]; exact hr
  · rw [mon_setMon_of_ne hj]; exact h j

theorem effective_setMon {s : State} {i : MonitorId} {r : MonitorRec} (h : r.effective = (mon s i).effective) :
    (mon (setMon i r s) .carrierStall).effective = (mon s .carrierStall).effective := by
  by_cases hi : MonitorId.carrierStall = i
  · rw [hi, mon_setMon, h]
  · rw [mon_setMon_of_ne hi]

theorem syncPause_isOpen (i : MonitorId) (s : State) : (syncPause i s).ja.isOpen = s.ja.isOpen := by
  unfold syncPause
  split <;> rfl

/-- A turned record leaves the pause with CARRIER-STALL (R123). -/
theorem pauseFollowsStall_turn {s : State} (i : MonitorId) (r : MonitorRec) (h : PauseFollowsStall s) :
    PauseFollowsStall (syncPause i (setMon i r s)) := by
  by_cases hi : i = .carrierStall
  · intro _
    rw [syncPause_isOpen, mon_syncPause]
    simp [syncPause, hi]
  · refine h.of_eq (by simp) ?_ (by simp [syncPause_isOpen]) (by simp [syncPause_ja hi])
    rw [mon_syncPause, mon_setMon_of_ne (Ne.symm hi)]

theorem monitorRec_idle_sound (mode : Option Mode) (qual : Nat) : (MonitorRec.idle mode qual).Sound :=
  ⟨nofun, Nat.zero_le _⟩

/-- Entry to RUN leaves every monitor inactive, with its mode and qualification (R167). -/
theorem mon_startUnits_idle (c : Settings) (s : State) (i : MonitorId) :
    ∃ mode qual, mon (startUnits c s) i = .idle mode qual := by
  have hreset (j : MonitorId) : ∃ mode qual, MonitorUnit.reset.recs[j.idx] = .idle mode qual := by
    cases j <;> exact ⟨_, _, rfl⟩
  obtain ⟨seconds, role⟩ := c
  cases role with
  | entry | exit | mill => cases i <;> exact ⟨_, _, rfl⟩
  | tip | lab => exact hreset i

theorem startUnits_isPaused (c : Settings) (s : State) : (startUnits c s).ja.isPaused = false := by
  unfold startUnits startedJuice
  dsimp only
  split <;> rfl

theorem cleared_sound (s : State) (part : Part) (li : LineInterface) :
    MonitorsSound { s with part := part, li := li, mu := s.mu.cleared } := by
  intro i
  have hmon : mon { s with part := part, li := li, mu := s.mu.cleared } i = .idle (mon s i).mode (mon s i).qual := by
    simp [mon, MonitorUnit.cleared, mapTable]
  rw [hmon]
  exact monitorRec_idle_sound _ _

/-! ### The three closures -/

theorem queueWithin_keptByOps : KeptByOps QueueWithin where
  line li h hle := hle.trans h
  join n ages _ hroom := by simpa [QueueWithin, enqueue, Limits.transmitQueue] using hroom
  port fp h _ := h
  event ev h _ := h
  record i r h _ _ := by simpa [QueueWithin] using h
  turn i r h _ := by simpa [QueueWithin] using h
  units h _ hli _ _ _ _ := by simpa [QueueWithin, hli] using h
  opened h := h
  muted part _ _ := Nat.zero_le _
  left part h _ := h
  started c _ := by
    unfold QueueWithin startUnits LineInterface.started
    dsimp only
    split <;> exact Nat.zero_le _

/-- Events stop at 15 places (R186), so any bound from 15 on is kept. -/
theorem outWithin_keptByOps {n : Nat} (hn : Limits.eventPlaces ≤ n) : KeptByOps (OutWithin n) where
  line li h _ := h
  join m ages h _ := h
  port fp h hle := hle.trans h
  event {s} ev _ hroom := by
    have hplaced : (place ev s).fp.out.length = s.fp.out.length + 1 := List.length_append
    exact hplaced.trans_le (le_trans hroom hn)
  record i r h _ _ := by simpa [OutWithin] using h
  turn i r h _ := by simpa [OutWithin] using h
  units h _ _ _ hfp _ _ := by simpa [OutWithin, hfp] using h
  opened h := h
  muted part h _ := h
  left part h _ := h
  started c h := h

theorem monitorsInOrder_keptByOps : KeptByOps MonitorsInOrder where
  line li h _ := h.of_eq rfl rfl rfl rfl
  join n ages h _ := h.of_eq rfl rfl rfl rfl
  port fp h _ := h.of_eq rfl rfl rfl rfl
  event ev h _ := h.of_eq rfl rfl rfl rfl
  record {s} i r h hsound heffective :=
    ⟨monitorsSound_setMon i h.1 (hsound (h.1 i)),
      h.2.of_eq (by simp) (effective_setMon heffective) (by simp) (by simp)⟩
  turn {s} i r h hsound :=
    ⟨.of_mu (monitorsSound_setMon i h.1 (hsound (h.1 i))) (by simp), pauseFollowsStall_turn i r h.2⟩
  units h hstate _ hmu _ hopen hpaused := h.of_eq hstate hmu hopen hpaused
  opened h := ⟨h.1.of_mu rfl, fun _ => rfl⟩
  muted part h hmute := ⟨cleared_sound _ _ _, fun hrun => by simp [hmute] at hrun⟩
  left part h hrun := ⟨h.1.of_mu rfl, fun hin => absurd hin hrun⟩
  started {s} c _ := by
    refine ⟨fun i => ?_, fun _ => ?_⟩
    · obtain ⟨mode, qual, hidle⟩ := mon_startUnits_idle c s i
      rw [hidle]
      exact monitorRec_idle_sound mode qual
    · obtain ⟨mode, qual, hidle⟩ := mon_startUnits_idle c s .carrierStall
      simp [startUnits_isPaused, hidle, MonitorRec.idle, MonitorRec.effective]

/-! ### The resets -/

/-- After a reset every block is at its reset value but the part, the wires and the queue (R35, R43). -/
theorem exec_reset_state {c : Instr} {s t : State} (hc : isReset c = true) (h : exec c s = .next t) :
    ∃ part, part.stationState = .powerUp ∧
      t = { State.reset with part := part, wires := s.wires, pending := s.pending } := by
  cases c with
  | powerOn | pinReset | resetnFall => cases h; exact ⟨_, rfl, rfl⟩
  | _ => cases hc

theorem monitorsSound_reset : MonitorsSound State.reset := by
  intro i
  cases i <;> exact monitorRec_idle_sound _ _

/-! ### The tick -/

/-- The counts leave whether a period is open and whether it is paused. -/
@[simp] theorem countRoleMs_open (s : State) :
    (countRoleMs s).ja.isOpen = s.ja.isOpen ∧ (countRoleMs s).ja.isPaused = s.ja.isPaused := by
  unfold countRoleMs JuiceAttributor.ms
  dsimp only
  (repeat' split) <;> simp

@[simp] theorem countMs_open (s : State) :
    (countMs s).ja.isOpen = s.ja.isOpen ∧ (countMs s).ja.isPaused = s.ja.isPaused := by
  unfold countMs
  split <;> simp

@[simp] theorem countInputs_open (s : State) :
    (countInputs s).ja.isOpen = s.ja.isOpen ∧ (countInputs s).ja.isPaused = s.ja.isPaused := by
  unfold countInputs
  dsimp only
  (repeat' split) <;> simp

theorem count_open (s : State) :
    (count s).ja.isOpen = s.ja.isOpen ∧ (count s).ja.isPaused = s.ja.isPaused := by
  unfold count
  dsimp only
  (repeat' split) <;> simp

theorem advance_monitorsInOrder {s : State} (h : MonitorsInOrder s) : MonitorsInOrder (advance s) := by
  obtain ⟨w, ⟨hpart, -, -, -, -, -, -, hja, -, hmu, -⟩, rx, bit, flow, wires, commands, heq⟩ := advance_counts s
  obtain ⟨hopen, hpaused⟩ := count_open w
  rw [heq]
  exact h.of_eq (by rw [← hpart, count_part w]) ((count_frame w).2.1.trans hmu) (hopen.trans (by rw [hja]))
    (hpaused.trans (by rw [hja]))

theorem tick_monitorsInOrder {s : State} (h : MonitorsInOrder s) : MonitorsInOrder (tick s) := by
  unfold tick
  split
  · exact h
  · split
    · exact advance_monitorsInOrder h
    · exact h.of_eq rfl rfl rfl rfl

/-! ### Every step -/

theorem exec_monitorsInOrder {c : Instr} {s t : State} (h : MonitorsInOrder s) (he : exec c s = .next t) :
    MonitorsInOrder t := by
  have hk := monitorsInOrder_keptByOps
  cases hreset : isReset c with
  | true =>
    obtain ⟨part, hpart, rfl⟩ := exec_reset_state hreset he
    exact ⟨monitorsSound_reset.of_mu rfl, fun hrun => by simp [hpart] at hrun⟩
  | false =>
    cases hreply : placesReply c with
    | true => exact hk.exec_placesReply (fun _ _ _ hu => hu.of_eq rfl rfl rfl rfl) id hreply h he
    | false => exact hk.exec hreset hreply h he

/-- Settles O8: every primitive change keeps the records sound and the pause with CARRIER-STALL, so every command does. -/
theorem stepKeepsMonitorsSound : Obligations.StepKeepsMonitorsSound := by
  intro s t hsound hpause h
  unfold step at h
  split at h
  next c rest _ => exact exec_monitorsInOrder (s := { s with pending := rest }) ⟨hsound, hpause⟩ h
  · cases h
    exact tick_monitorsInOrder ⟨hsound, hpause⟩

/-! ### The two queues -/

theorem exec_queueWithin {c : Instr} {s t : State} (h : QueueWithin s) (he : exec c s = .next t) : QueueWithin t := by
  cases hreset : isReset c with
  | true =>
    obtain ⟨part, -, rfl⟩ := exec_reset_state hreset he
    exact Nat.zero_le _
  | false =>
    cases hreply : placesReply c with
    | true => exact queueWithin_keptByOps.exec_placesReply (fun _ _ _ hu => hu) id hreply h he
    | false => exact queueWithin_keptByOps.exec hreset hreply h he

/-- A reply takes the sixteenth place at most: in the hold no record is taken (R186, R187). -/
theorem exec_outWithin {c : Instr} {s t : State} (h : OutWithin 16 s) (he : exec c s = .next t) : OutWithin 16 t := by
  cases hreset : isReset c with
  | true =>
    obtain ⟨part, -, rfl⟩ := exec_reset_state hreset he
    exact Nat.zero_le _
  | false =>
    cases hreply : placesReply c with
    | false => exact (outWithin_keptByOps (by decide)).exec hreset hreply h he
    | true =>
      cases htakes : fieldPortTakes s with
      | false => exact exec_placesReply_hold hreply htakes he ▸ h
      | true =>
        have hroom : OutWithin 15 s := by
          simp only [fieldPortTakes, Limits.outbound, Bool.and_eq_true, decide_eq_true_eq] at htakes
          exact Nat.le_of_lt_succ htakes.2
        have hk : KeptByOps (OutWithin 15) := outWithin_keptByOps le_rfl
        refine hk.exec_placesReply (Q := OutWithin 16) ?_ (fun hu => Nat.le_succ_of_le hu) hreply hroom he
        intro u kind code detail hu
        have hplaced : (place (.reply kind code detail) u).fp.out.length = u.fp.out.length + 1 := List.length_append
        exact hplaced.trans_le (Nat.succ_le_succ hu)

end Sys2Proof.Machine
end

section
/-! PROOFS. The transmitter, the beacons and the line (R1 to R12, R17): what each of their commands makes of the state. -/

namespace Sys2Proof.Machine

/-! ### Operations over a state that differs in other blocks -/

/-- An event changes the field port alone, by what it held (R186). -/
theorem emit_over {s t : State} (ev : OutItem) (h : t.fp = s.fp) : emit ev t = { t with fp := (emit ev s).fp } := by
  rw [← emit_fp ev h]
  apply State.ext_blocks <;> simp

/-- The end of a condition changes the monitors and the field port alone, by what they held (R172). -/
theorem conditionEnds_over {s t : State} {i : MonitorId} (hi : i ≠ .carrierStall) (hm : t.mu = s.mu) (hf : t.fp = s.fp) :
    conditionEnds i t = { t with mu := (conditionEnds i s).mu, fp := (conditionEnds i s).fp } := by
  obtain ⟨hmu, hfp⟩ := conditionEnds_reads i hm hf
  apply State.ext_blocks <;> simp [hmu, hfp, conditionEnds_ja hi]

/-- The start of a condition changes the monitors and the field port alone, by what they held (R169). -/
theorem conditionStarts_over {s t : State} {i : MonitorId} (hi : i ≠ .carrierStall) (hm : t.mu = s.mu)
    (hf : t.fp = s.fp) :
    conditionStarts i t = { t with mu := (conditionStarts i s).mu, fp := (conditionStarts i s).fp } := by
  obtain ⟨hmu, hfp⟩ := conditionStarts_reads i hm hf
  apply State.ext_blocks <;> simp [hmu, hfp, conditionStarts_ja hi]

/-! ### The part as a whole -/

/-- Settles O1: a step on a queue that is not empty is its first command. -/
theorem stepTakesTheFrontCommand : Obligations.StepTakesTheFrontCommand := fun _ _ _ => rfl

/-- Settles O4: the resets are `atPowerUp`, and the straps decode by Table 1. -/
theorem resetsAndPowerUpSetTheStation : Obligations.ResetsAndPowerUpSetTheStation := by
  refine ⟨fun s => ⟨rfl, rfl, rfl, rfl, rfl, rfl, rfl, rfl, rfl, rfl, rfl, rfl, rfl, ?_, rfl, rfl, rfl, rfl, rfl, rfl⟩,
    ?_, rfl, rfl, rfl, rfl, rfl, rfl, rfl, rfl, rfl⟩
  · decide
  · intro n a b s hstate hreset
    have hends : s.part.stationState = .powerUp ∧ s.part.resetLow = false := ⟨hstate, hreset⟩
    simp only [exec, execPowerUpEnd, if_pos hends]
    rfl

/-- Settles O11: every invariant at the values of power-on and pin reset. -/
theorem invariantsHoldAtReset : Obligations.InvariantsHoldAtReset := by
  refine ⟨fun _ => ⟨rfl, rfl, rfl, rfl⟩, by decide, ?_, monitorsSound_reset, nofun⟩
  exact ⟨.nil, .nil, .nil, .nil, nofun, .nil, .nil, .nil, nofun, .nil, .nil, nofun, Nat.zero_le _⟩

/-! ### The frame in hand -/

/-- The line interface with its frame dropped (R6, R9). -/
def LineInterface.dropped (li : LineInterface) : LineInterface :=
  { li with tx := .idle, inHand := none, frame := [], txTicks := 0, slotsLeft := 0, partSlot := 0, collisions := 0 }

theorem dropFrame_over {s t : State} (hm : t.mu = s.mu) (hf : t.fp = s.fp) :
    dropFrame t = { t with
      li := t.li.dropped, mu := (conditionEnds .lineCongestion s).mu, fp := (conditionEnds .lineCongestion s).fp } :=
  conditionEnds_over (t := t.setLi t.li.dropped) (by decide) hm hf

/-- In RUN a dropped frame gives way to the head of the queue, once the started beacon is sent (R3). -/
theorem takeQueueHead_dropped {t : State} {li : LineInterface} (hrun : t.part.stationState = .run) (hli : t.li = li.dropped) :
    takeQueueHead t = { t with li := { li.dropped with
      tx := if li.startedSent && !li.queue.isEmpty then .waiting else .idle
      inHand := if li.startedSent && !li.queue.isEmpty then some .queueHead else none } } := by
  have hfree : (t.part.stationState = .run ∧ t.li.tx = .idle ∧ t.li.startedSent = true ∧ t.li.queue ≠ []) ↔
      (li.startedSent && !li.queue.isEmpty) = true := by simp [hrun, hli, LineInterface.dropped]
  unfold takeQueueHead
  by_cases hnext : (li.startedSent && !li.queue.isEmpty) = true
  · rw [if_pos (hfree.2 hnext)]
    simp only [if_pos hnext, takeInHand, State.setLi, hli]
    rfl
  · rw [if_neg (mt hfree.1 hnext)]
    simp only [if_neg hnext]
    exact State.ext_blocks rfl hli rfl rfl rfl rfl rfl rfl rfl rfl rfl rfl rfl rfl

/-- A queued head is taken in hand in RUN with an IDLE transmitter, once the started beacon is sent (R3). -/
theorem takeQueueHead_of_free {s : State} (hrun : s.part.stationState = .run) (htx : s.li.tx = .idle)
    (hstarted : s.li.startedSent = true) (hqueue : s.li.queue ≠ []) :
    takeQueueHead s = { s with li := { s.li with
      tx := .waiting, inHand := some .queueHead, collisions := 0, slotsLeft := 0, partSlot := 0 } } := by
  simp [takeQueueHead, hrun, htx, hstarted, hqueue, takeInHand, State.setLi]

/-- Settles O15: a due beacon is taken in hand or skipped. -/
theorem beaconsAreTakenInHandWhenDue : Obligations.BeaconsAreTakenInHandWhenDue := by
  intro s hrun
  refine ⟨fun hsent htx => ?_, fun hsent htx hqueue => ?_, fun hsent hbusy => ?_⟩
  · simp [exec, execStartedBeaconDue, hrun, hsent, htx, takeInHand, State.setLi]
  · simp [exec, execRegularBeaconDue, hrun, hsent, htx, hqueue, takeInHand, State.setLi, Limits.beaconMs]
  · have hskip : ¬(s.li.queue = [] ∧ s.li.tx = .idle) := fun h => hbusy.elim (· h.2) (· h.1)
    simp [exec, execRegularBeaconDue, hrun, hsent, hskip, State.setLi, Limits.beaconMs]

/-- Settles O14: each command of a collision takes the transmitter one state on. -/
theorem collisionsMarkAndBackOff : Obligations.CollisionsMarkAndBackOff := by
  refine ⟨fun s => ⟨fun htx => ?_, fun htx => ?_⟩, fun s htx => ⟨fun hkeep => ?_, fun hhand hqueue hrun hsent => ?_⟩⟩
  · by_cases hn : 8 ≤ min (s.li.collisions + 1) 255
    · have hstarts : Limits.congestion ≤ bump Limits.collisionCount s.li.collisions := hn
      simp only [exec, execCollision, htx, if_true, if_pos hn, if_pos hstarts]
      exact congrArg _ (conditionStarts_over (s := s) (by decide) rfl rfl)
    · have hcounts : ¬ Limits.congestion ≤ bump Limits.collisionCount s.li.collisions := hn
      simp only [exec, execCollision, htx, if_true, if_neg hn, if_neg hcounts]
      rfl
  · simp [exec, execCollisionMarkEnd, htx, State.setLi, LineInterface.active, backoffSlots]
  · simp [exec, execBackoffEnd, htx, hkeep, State.setLi]
  · have hgives : s.li.inHand = some .regularBeacon ∧ s.li.queue ≠ [] := ⟨hhand, hqueue⟩
    have hends : exec .backoffEnd s = .next (takeQueueHead (dropFrame s)) := by
      simp only [exec, execBackoffEnd, if_pos htx, if_pos hgives]
    rw [hends, dropFrame_over (s := s) rfl rfl, takeQueueHead_of_free (by exact hrun) rfl (by exact hsent) (by exact hqueue)]
    rfl

/-! ### The transmit queue (R10, R14) -/

/-- Dropping a frame and taking the next keep the queue, the sequence and the counters. -/
theorem takeQueueHead_queue (s : State) : (takeQueueHead s).li.queue = s.li.queue ∧
    (takeQueueHead s).li.lastSeq = s.li.lastSeq ∧ (takeQueueHead s).li.counters = s.li.counters := by
  unfold takeQueueHead
  split <;> exact ⟨rfl, rfl, rfl⟩

theorem abandonWaitingBeacon_queue (s : State) : (abandonWaitingBeacon s).li.queue = s.li.queue ∧
    (abandonWaitingBeacon s).li.lastSeq = s.li.lastSeq ∧ (abandonWaitingBeacon s).li.counters = s.li.counters := by
  unfold abandonWaitingBeacon
  split
  · rw [dropFrame_over (s := s) rfl rfl]
    exact ⟨rfl, rfl, rfl⟩
  · exact ⟨rfl, rfl, rfl⟩

theorem abandonWaitingBeacon_of_not {s : State} (h : s.li.tx ≠ .waiting ∨ s.li.inHand ≠ some .regularBeacon) :
    abandonWaitingBeacon s = s :=
  if_neg fun hbeacon => h.elim (· hbeacon.1) (· hbeacon.2)

/-- A waiting regular beacon given up leaves the transmitter IDLE, as an IDLE transmitter stays (R17). -/
theorem abandonWaitingBeacon_idle {s : State}
    (h : s.li.tx = .idle ∨ s.li.tx = .waiting ∧ s.li.inHand = some .regularBeacon) :
    (abandonWaitingBeacon s).li.tx = .idle ∧ (abandonWaitingBeacon s).li.startedSent = s.li.startedSent := by
  rcases h with hidle | hbeacon
  · rw [abandonWaitingBeacon_of_not (.inl (by simp [hidle]))]
    exact ⟨hidle, rfl⟩
  · have hgives : abandonWaitingBeacon s = dropFrame s := if_pos hbeacon
    rw [hgives, dropFrame_over (s := s) rfl rfl]
    exact ⟨rfl, rfl⟩

/-- Settles O16: below 8 the notice is enqueued, a waiting beacon dropped and the head taken in hand; at 8 it is lost. -/
theorem offeredNoticeJoinsOrIsLost : Obligations.OfferedNoticeJoinsOrIsLost := by
  intro n ages s
  refine ⟨fun hroom => ?_, fun hfull => ?_, by cases n <;> rfl⟩
  · have hoffer : offer n ages s = takeQueueHead (abandonWaitingBeacon (enqueue n ages s)) := if_pos hroom
    obtain ⟨hqueue, hseq, hcounters⟩ := abandonWaitingBeacon_queue (enqueue n ages s)
    obtain ⟨hqueue', hseq', hcounters'⟩ := takeQueueHead_queue (abandonWaitingBeacon (enqueue n ages s))
    rw [hoffer]
    refine ⟨hqueue'.trans hqueue, hseq'.trans hseq, hcounters'.trans hcounters, fun hkeep => ?_,
      fun hrun hstarted hfree => ?_⟩
    · rw [abandonWaitingBeacon_of_not (by exact hkeep)]
      simp [enqueue]
    · obtain ⟨hidle, hsent⟩ := abandonWaitingBeacon_idle (s := enqueue n ages s) hfree
      have hne : (abandonWaitingBeacon (enqueue n ages s)).li.queue ≠ [] := by
        rw [hqueue]
        simp [enqueue]
      rw [takeQueueHead_of_free (by simpa [enqueue] using hrun) hidle (hsent.trans hstarted) hne]
      exact ⟨rfl, rfl, rfl⟩
  · exact if_neg (not_lt.2 hfull)

/-- One byte of a value (R33). -/
theorem be_one (v : Nat) : be 1 v = [BitVec.ofNat 8 v] := by simp [be]

/-- Two bytes of a value are those of its 16 bits (R33). -/
theorem be_two_mod (v : Nat) : be 2 (v % 65536) = be 2 v := by
  have hhigh : BitVec.ofNat 8 (v % 65536 / 256) = BitVec.ofNat 8 (v / 256) := BitVec.eq_of_toNat_eq (by simp; omega)
  have hlow : BitVec.ofNat 8 (v % 65536) = BitVec.ofNat 8 v := BitVec.eq_of_toNat_eq (by simp)
  simp [be, hhigh, hlow]

/-! ### Attempts (R3 to R6) -/

/-- An attempt begins with the frame in hand, built with its live fields (R3, R4). -/
theorem execAttemptStart_of_body {s : State} {body : List Byte} (hmay : mayAttempt s = true)
    (hbody : bodyInHand s = some body) :
    exec .attemptStart s = .next { s with li := { s.li with
      quiet := .active, quietTicks := 0, tx := .sending, txTicks := 0
      queue := if s.li.inHand = some .queueHead then markBegun s.li.queue else s.li.queue
      frame := frameBytes body } } := by
  simp [exec, execAttemptStart, hmay, hbody, State.setLi, LineInterface.active]

/-- A completed notice leaves the queue, with SENT if its report flag is set (R6). -/
theorem completeFrame_queueHead {t : State} {e : QueueEntry} {rest : List QueueEntry} (h : t.li.queue = e :: rest) :
    completeFrame (some .queueHead) t = { t with
      li := { t.li with queue := rest }, fp := (if e.report then emit (.sent e.notice.kind e.notice.name) t else t).fp } := by
  simp only [completeFrame, h]
  split
  · exact emit_over _ rfl
  · rfl

/-- The line interface as the own frame or mark ends (R6, R12). -/
def LineInterface.ownEnded (li : LineInterface) : LineInterface :=
  { li with quiet := .active, quietTicks := 0, rx := .waitQuiet }

/-- ATTEMPT_COMPLETE completes the frame over the line released, and the next frame is taken in hand (R3, R6). -/
theorem execAttemptComplete_of_sending {s : State} (htx : s.li.tx = .sending) :
    exec .attemptComplete s = .next (takeQueueHead (completeFrame s.li.inHand { s with
      li := s.li.ownEnded.dropped
      mu := (conditionEnds .lineCongestion s).mu, fp := (conditionEnds .lineCongestion s).fp })) := by
  have hdropped := dropFrame_over (s := s) (t := ownFrameEnds s) rfl rfl
  simp only [exec, execAttemptComplete, if_pos htx, hdropped]
  rfl

/-- Settles O13: the frame is built from the frame in hand, and its completion told by the frame that was in hand. -/
theorem attemptsSendTheFrameInHand : Obligations.AttemptsSendTheFrameInHand := by
  refine ⟨fun s r hrun hrole htx hquiet hslots => ?_, fun s hrun htx => ?_, fun started s => ?_, fun e attempt => ?_⟩
  · have hmay : mayAttempt s = true := by simp [mayAttempt, hrun, htx, hquiet, hslots]
    refine ⟨fun hhand => ?_, fun hhand => ?_, fun e rest hhand hqueue => ?_⟩
    · have hbody : bodyInHand s = some (frameBody s.part.station (roleCode r) s.part.fresh 1 255
          (beaconNow true s).payload) := by simp [bodyInHand, hhand, hrole]
      rw [execAttemptStart_of_body hmay hbody]
      simp only [hhand]
      rfl
    · have hbody : bodyInHand s = some (frameBody s.part.station (roleCode r) s.part.fresh 1 s.li.lastSeq
          (beaconNow false s).payload) := by simp [bodyInHand, hhand, hrole]
      rw [execAttemptStart_of_body hmay hbody]
      simp only [hhand]
      rfl
    · have hbody : bodyInHand s = some (frameBody s.part.station (roleCode r) s.part.fresh e.notice.kind.code e.seq
          (e.live (attemptNumber s)).payload) := by simp [bodyInHand, hhand, hrole, hqueue]
      rw [execAttemptStart_of_body hmay hbody]
      simp only [hhand, hqueue]
      rfl
  · refine ⟨fun e rest hhand hqueue => ?_, fun hhand => ?_, fun hhand => ?_⟩ <;>
      rw [execAttemptComplete_of_sending htx, hhand]
    · rw [completeFrame_queueHead (by exact hqueue),
        takeQueueHead_dropped (li := { s.li.ownEnded with queue := rest }) (by exact hrun) rfl]
      refine congrArg _ (State.ext_blocks rfl rfl rfl rfl rfl rfl rfl rfl rfl rfl ?_ rfl rfl rfl)
      dsimp only
      split
      · exact emit_fp _ rfl
      · rfl
    · simp only [completeFrame]
      rw [takeQueueHead_dropped (li := { s.li.ownEnded with startedSent := true, beaconTimer := some 2000 })
        (by exact hrun) rfl]
      rfl
    · simp only [completeFrame]
      rw [takeQueueHead_dropped (by exact hrun) rfl]
      rfl
  · by_cases hconfig : s.part.stationState = .config <;>
      simp [beaconNow, Beacon.payload, be_one, be_two_mod, hconfig, flagBit, Limits.stopped]
  · obtain ⟨notice, seq, report, begun, ages⟩ := e
    refine ⟨?_, ?_⟩
    · rintro n a rfl rfl
      rfl
    · intro h
      unfold QueueEntry.live
      split
      · simp_all
      · rfl

/-! ### The line and its receiver (R1, R2, R12) -/

theorem alternates_eight (b0 b1 b2 b3 b4 b5 b6 b7 : Bool) : alternates [b0, b1, b2, b3, b4, b5, b6, b7] = true ↔
    ∃ first : Bool, [b0, b1, b2, b3, b4, b5, b6, b7] = (List.range 8).map fun i => first ^^ (i % 2 == 1) := by
  revert b0 b1 b2 b3 b4 b5 b6 b7; decide

theorem syncByte_iff (b0 b1 b2 b3 b4 b5 b6 b7 : Bool) : bytesOfBits [b0, b1, b2, b3, b4, b5, b6, b7] = [0xB4] ↔
    [b0, b1, b2, b3, b4, b5, b6, b7] = [true, false, true, true, false, true, false, false] := by
  revert b0 b1 b2 b3 b4 b5 b6 b7; decide

/-- Eight bits as the list of them. -/
theorem exists_eight_of_length {l : List Bool} (h : l.length = 8) :
    ∃ b0 b1 b2 b3 b4 b5 b6 b7, l = [b0, b1, b2, b3, b4, b5, b6, b7] := by
  match l, h with
  | [b0, b1, b2, b3, b4, b5, b6, b7], _ => exact ⟨_, _, _, _, _, _, _, _, rfl⟩

/-- Sync is 8 alternating bits and the bits of B4h (R12). -/
theorem syncFound_iff {last : List Bool} (h : last.length = 16) : syncFound last = true ↔
    (∃ first : Bool, last.take 8 = (List.range 8).map fun i => first ^^ (i % 2 == 1)) ∧
      last.drop 8 = [true, false, true, true, false, true, false, false] := by
  obtain ⟨b0, b1, b2, b3, b4, b5, b6, b7, hpreamble⟩ := exists_eight_of_length (l := last.take 8) (by simp [h])
  obtain ⟨c0, c1, c2, c3, c4, c5, c6, c7, hsync⟩ := exists_eight_of_length (l := last.drop 8) (by simp [h])
  simp only [syncFound, h, hpreamble, hsync, Bool.and_eq_true, beq_iff_eq, alternates_eight, syncByte_iff, true_and]

theorem syncFound_of_short {last : List Bool} (h : last.length < 16) : syncFound last = false := by
  simp [syncFound, h.ne]

/-- One byte of a payload, 0 where it has none. -/
theorem field_one (p : List Byte) (i : Nat) : field p i 1 = (p.getD i 0).toNat := by
  induction p generalizing i with
  | nil => cases i <;> simp [field, fromBe]
  | cons b p ih =>
    cases i with
    | zero => simp [field, fromBe]
    | succ i => simpa [field] using ih i

/-- HUNT keeps the last 16 bits and looks for sync in them (R12). -/
theorem lineRx_take_hunt (last : List Bool) (b : Bool) :
    (LineRx.hunt last).take (.bit b) =
      if syncFound ((last ++ [b]).drop (last.length + 1 - 16)) then (.header [], [])
      else (.hunt ((last ++ [b]).drop (last.length + 1 - 16)), []) := rfl

theorem lineRx_take_hunt_of_short {last : List Bool} (b : Bool) (h : last.length < 15) :
    (LineRx.hunt last).take (.bit b) = (.hunt (last ++ [b]), []) := by
  have hdrop : last.length + 1 - 16 = 0 := by omega
  rw [lineRx_take_hunt, hdrop, List.drop_zero, syncFound_of_short (by simp; omega)]
  rfl

theorem lineRx_take_hunt_of_full {last : List Bool} (b : Bool) (h : 15 ≤ last.length) :
    (LineRx.hunt last).take (.bit b) =
      if syncFound (last.drop (last.length - 15) ++ [b]) then (.header [], [])
      else (.hunt (last.drop (last.length - 15) ++ [b]), []) := by
  have hdrop : last.length + 1 - 16 = last.length - 15 := by omega
  rw [lineRx_take_hunt, hdrop, List.drop_append_of_le_length (by omega)]

/-- "While any station drives low the line reads low" (section 1.1). -/
theorem lineReads_tick (s : State) : lineReads (s.setWires { s.wires with line := s.wires.line.tick }) =
    (s.wires.line.tick.level && lineLevel s != some false) := by
  have hdriven : lineReads (s.setWires { s.wires with line := s.wires.line.tick }) =
      ((lineLevel s).getD true && s.wires.line.tick.level) := rfl
  rw [hdriven]
  rcases lineLevel s with _ | _ | _ <;> simp

/-- Settles O12: the line's commands, the receiver bit by bit, the bit clock, and the line 2 µs on. -/
theorem lineStateFollowsTheLine : Obligations.LineStateFollowsTheLine := by
  refine ⟨fun s hreset => ⟨?_, ?_⟩, fun e s hlistens => ?_, fun bits last b => ?_, fun n level => ?_, ?_⟩
  · simp [exec, execLineActive, hreset, State.setLi, LineInterface.active]
  · simp only [exec, execLineQuiet, hreset, LineRx.quiet]
    cases s.li.rx <;> rfl
  · have htakes : receiverTakes s = true := (receiverTakes_iff s).2 hlistens
    simp only [exec, execFrameError, htakes, if_true]
    cases e <;> simp [LineInterface.afterError, LineCounters.countError, State.setLi, LineInterface.active, bump, Limits.sat16, Limits.quietTicks]
  · intro now lengthByte bit
    have hlength : field (bytesOfBits now) 3 1 = lengthByte.toNat := field_one _ 3
    refine ⟨rfl, rfl, rfl, lineRx_take_hunt_of_short b, ?_, rfl, rfl, fun hshort => if_pos hshort,
      fun hheader hlong => ?_, fun hheader hfits => ?_, fun _ hmore => ?_, fun _ hall => ?_⟩
    · intro hfull hlast window synced
      have hwindow : syncFound window = true ↔ synced := syncFound_iff (by simp [window]; omega)
      have htake := lineRx_take_hunt_of_full b hfull
      exact ⟨fun h => htake.trans (if_pos (hwindow.2 h)), fun h => htake.trans (if_neg (mt hwindow.1 h))⟩
    · have hbits : ¬now.length < 32 := by omega
      exact (if_neg hbits).trans (if_pos (by rw [hlength]; exact hlong))
    · have hbits : ¬now.length < 32 := by omega
      exact (if_neg hbits).trans (if_neg (by rw [hlength]; exact not_lt.2 hfits))
    · have hbits : now.length < (field (bytesOfBits now) 3 1 + 6) * 8 := hlength.symm ▸ hmore
      exact if_pos hbits
    · have hbits : ¬now.length < (field (bytesOfBits now) 3 1 + 6) * 8 := by omega
      exact ⟨_, if_neg hbits⟩
  · refine ⟨?_, ?_, fun hn now => ?_, fun hn => ?_, fun hn hlate => ?_, fun hn => ?_⟩
    · simp [bitClock]
    · simp [bitClock]
    · have hearly : ¬(level ≠ now ∧ Limits.midBitEarly ≤ n + 1) := fun h => absurd (show 6 ≤ n + 1 from h.2) (by omega)
      have hlate : ¬Limits.midBitLate ≤ n + 1 := show ¬10 ≤ n + 1 by omega
      simp only [bitClock, if_neg hearly, if_neg hlate]
    · have hmid : level ≠ !level ∧ Limits.midBitEarly ≤ n + 1 := ⟨by simp, show 6 ≤ n + 1 by omega⟩
      simp only [bitClock, if_pos hmid]
    · simp [bitClock, Limits.midBitLate]; omega
    · simp [bitClock, Limits.midBitLate]; omega
  · intro s others now wires clocked heard
    refine ⟨fun hown => ?_, fun hsending hmark => ?_⟩
    · simp only [tickLine, if_pos hown, lineReads_tick]
      rfl
    · have hlistens : ¬(s.li.tx = .sending ∨ s.li.tx = .mark) := fun h => h.elim hsending hmark
      simp only [tickLine, if_neg hlistens, lineReads_tick]
      rfl

end Sys2Proof.Machine
end

section
/-! PROOFS. Reception (R12, R13, R15, R16, R18 to R20, R25, R40): frames that go no further, the duplicate checks, the peer
table, and PEER-SILENT. -/

namespace Sys2Proof.Machine

/-! ### Frames that go no further -/

theorem exists_roleOfCode {n : Nat} (h1 : 1 ≤ n) (h5 : n ≤ 5) : ∃ r, roleOfCode n = some r := by
  have hn : n = 1 ∨ n = 2 ∨ n = 3 ∨ n = 4 ∨ n = 5 := by omega
  rcases hn with rfl | rfl | rfl | rfl | rfl <;> exact ⟨_, rfl⟩

/-- Settles O17: each check that fails counts the frame and passes it on to nothing. -/
theorem framesAreCountedOrPassedOn : Obligations.FramesAreCountedOrPassedOn := by
  refine ⟨fun c h k p s hc => ⟨fun hnot => ?_, fun hlistens hcode => ?_, fun hlistens h1 h5 hstate => ?_⟩,
    fun h kind p s sender hpasses hkind => ?_, fun c h k p s sender hc hpasses h1 h7 hread => ?_⟩
  · rw [exec_asFrame s hc, receive, if_neg (mt (receiverTakes_iff s).1 hnot)]
  · rw [exec_asFrame s hc, receive, if_pos ((receiverTakes_iff s).2 hlistens), roleOfCode_none hcode]
    rfl
  · obtain ⟨sender, hsender⟩ := exists_roleOfCode h1 h5
    rw [exec_asFrame s hc, receive, if_pos ((receiverTakes_iff s).2 hlistens), hsender]
    have hpass : passFrame h sender k p (frameTaken s) = frameTaken s := by
      rcases hstate with hstate | hstate <;> simp [passFrame, hstate]
    dsimp only
    rw [hpass]
    rfl
  · have hunknown : knownKind kind.toNat = false := by
      rcases hkind with rfl | hkind
      · rfl
      · simp [knownKind]; omega
    rw [exec_passes rfl hpasses]
    simp only [checkNotice, hunknown]
    rfl
  · have hknown : knownKind k = true := by simp [knownKind, h1, h7]
    rw [exec_passes hc hpasses]
    simp only [checkNotice, hknown, hread]
    rfl

/-! ### The move to MUTE (R19, R20, R40) -/

/-- Hearing a frame leaves the line ACTIVE and the receiver waiting for quiet (R2, R12). -/
@[simp] theorem heard_li (sender : Role) (h : FrameHeader) (k : Nat) (p : List Byte) (s : State) :
    (heard sender h k p s).li = { s.li with quiet := .active, quietTicks := 0, rx := .waitQuiet } := by
  simp [heard, tableUpdated, frameTaken, LineInterface.active]

/-- The MONITOR events of a move to MUTE, one for each active monitor (R40, R176). -/
def endedEvents (s : State) : List OutItem :=
  (MonitorId.all.filter fun i => (mon s i).active).map fun i => .monitor i false

theorem reportEnded_eq (s : State) : reportEnded s = (endedEvents s).foldl (fun t ev => emit ev t) s := by
  rw [reportEnded, endedEvents, List.foldl_map]

theorem endedEvents_of_mu {s t : State} (h : s.mu = t.mu) : endedEvents s = endedEvents t := by
  simp only [endedEvents, mon_eq _ h]

/-- A move to MUTE: the transmitter stops, the monitors are cleared, and their events are placed (R40). -/
theorem enterMute_eq {s t : State} (cause : MuteCause) (hm : t.mu = s.mu) (hf : t.fp = s.fp) :
    enterMute cause t = { t with
      part := { t.part with stationState := .mute, muteCause := cause }
      li := t.li.stopped, mu := s.mu.cleared, fp := ((endedEvents s).foldl (fun u ev => emit ev u) s).fp } := by
  have hfp : (enterMute cause t).fp = ((endedEvents s).foldl (fun u ev => emit ev u) s).fp := by
    rw [show (enterMute cause t).fp = (reportEnded t).fp from rfl, reportEnded_eq, endedEvents_of_mu hm]
    exact foldEmit_fp _ hf
  refine State.ext_blocks ?_ ?_ ?_ ?_ ?_ ?_ ?_ ?_ ?_ ?_ hfp ?_ ?_ ?_ <;> simp [enterMute, hm]

theorem stopped_of_waitQuiet {li : LineInterface} (h : li.rx = .waitQuiet) : li.stopped = { li with
    tx := .idle, inHand := none, frame := [], txTicks := 0, slotsLeft := 0, partSlot := 0, collisions := 0
    queue := [], beaconTimer := none } := by
  simp [LineInterface.stopped, h]

/-- Settles O18: the duplicate checks of R19 and R20 end in the move to MUTE, the second after the peer table. -/
theorem duplicateStationOrRoleMutes : Obligations.DuplicateStationOrRoleMutes := by
  intro c h k p s sender hc hlistens hcode ended muted
  have hreceive : exec c s = .next (passFrame h sender k p (frameTaken s)) := by
    rw [exec_asFrame s hc, receive, if_pos ((receiverTakes_iff s).2 hlistens), hcode, roleOfCode_roleCode]
  refine ⟨fun hrun hstation => ?_, fun hstate hpair hrole hlower => ?_⟩
  · have hpass : passFrame h sender k p (frameTaken s) = enterMute .duplicateStation (frameTaken s) := by
      simp [passFrame, hrun, hstation]
    rw [hreceive, hpass, enterMute_eq (s := s) (t := frameTaken s) _ rfl rfl, stopped_of_waitQuiet rfl]
    rfl
  · have hduplicate : duplicateRole h sender (heard sender h k p s) = true := by
      simp [duplicateRole, hpair, hrole, hlower]
    have haccept : acceptFrame h sender k p (frameTaken s) = enterMute .duplicateRole (heard sender h k p s) :=
      if_pos hduplicate
    have hpass : passFrame h sender k p (frameTaken s) = acceptFrame h sender k p (frameTaken s) := by
      rcases hstate with hstate | hstate <;> simp [passFrame, hstate, hlower.ne]
    rw [hreceive, hpass, haccept, enterMute_eq (s := heard sender h k p s) _ rfl rfl,
      stopped_of_waitQuiet (by simp)]
    simp only [muted, heard_li, heard_frame]
    rfl

/-! ### The peer table (R15) -/

/-- The first two steps of R15. -/
theorem heardAs_eq (e : PeerEntry) (role : Role) (fresh : Bool) :
    let changed := e.role ≠ none ∧ e.role ≠ some role
    e.heardAs role fresh = { e with
      state := .heard, sinceMs := 0, role := some role, fresh := fresh
      lastSeq := if changed then none else e.lastSeq
      roleChanges := if changed then min (e.roleChanges + 1) 65535 else e.roleChanges } := by
  cases hrole : e.role with
  | none => simp [PeerEntry.heardAs, hrole]
  | some r => simp [PeerEntry.heardAs, hrole, bump, Limits.sat16]

/-- Step 3 of R15 changes the last sequence and the missed count alone. -/
theorem applySeq_keeps (e : PeerEntry) (use : SeqUse) (seq : SeqNo) :
    ∃ last missed, e.applySeq use seq = { e with lastSeq := last, missed := missed } := by
  unfold PeerEntry.applySeq
  dsimp only
  (repeat' split) <;> exact ⟨_, _, rfl⟩

theorem applySeq_first {e : PeerEntry} {use : SeqUse} (seq : SeqNo) (hlast : e.lastSeq = none)
    (huse : use ≠ .startedBeacon) : e.applySeq use seq = { e with lastSeq := some seq } := by
  cases use with
  | startedBeacon => exact absurd rfl huse
  | accounting | otherBeacon => simp [PeerEntry.applySeq, hlast]

/-- An accounting notice counts the numbers skipped; the same number again counts none. -/
theorem applySeq_accounting {e : PeerEntry} {last : SeqNo} (seq : SeqNo) (hlast : e.lastSeq = some last) :
    (e.applySeq .accounting seq).lastSeq = some seq ∧
    ((seq - last).toNat = 0 → (e.applySeq .accounting seq).missed = e.missed) ∧
    (1 ≤ (seq - last).toNat →
      (e.applySeq .accounting seq).missed = min (e.missed + ((seq - last).toNat - 1)) 255) := by
  simp only [PeerEntry.applySeq, hlast]
  split
  next hsame =>
    have hseq : seq = last := by
      have hzero : seq - last = 0 := BitVec.eq_of_toNat_eq (by simpa using hsame)
      exact (BitVec.sub_eq_iff_eq_add.1 hzero).trans (by simp)
    exact ⟨hlast.trans (by rw [hseq]), fun _ => rfl, fun h => by omega⟩
  next hskip => exact ⟨rfl, fun h => absurd h hskip, fun _ => rfl⟩

/-- A regular beacon names the last number assigned: a gap of 1 to 127 is missed, another is not counted. -/
theorem applySeq_otherBeacon {e : PeerEntry} {last : SeqNo} (seq : SeqNo) (hlast : e.lastSeq = some last) :
    if 1 ≤ (seq - last).toNat ∧ (seq - last).toNat ≤ 127 then
      (e.applySeq .otherBeacon seq).lastSeq = some seq ∧
        (e.applySeq .otherBeacon seq).missed = min (e.missed + (seq - last).toNat) 255
    else (e.applySeq .otherBeacon seq).lastSeq = some last ∧ (e.applySeq .otherBeacon seq).missed = e.missed := by
  simp only [PeerEntry.applySeq, hlast]
  split
  · exact ⟨rfl, rfl⟩
  · exact ⟨hlast, rfl⟩

/-- A flag of a flag word is its bit (R33). -/
theorem bitOf_eq_testBit (i v : Nat) : bitOf i v = v.testBit i := by
  rw [bitOf, Nat.testBit_eq_decide_div_mod_eq, beq_eq_decide]

theorem beaconStarted_of_byte {p : List Byte} {b : Byte} (h : p[1]? = some b) : beaconStarted p = b.getLsbD 0 := by
  simp only [beaconStarted, h, bitOf_eq_testBit]
  rfl

theorem beaconState_of_head {p : List Byte} {b : Byte} (h : p[0]? = some b) :
    beaconState p = if b = 1 then .config else if b = 2 then .run else Config.malformedBeaconState p := by
  simp only [beaconState, List.head?_eq_getElem?, h]

/-- Settles O19: the notice checks leave the table, and the entry follows the steps of R15. -/
theorem peerTableTakesTheFrame : Obligations.PeerTableTakesTheFrame := by
  refine ⟨fun c h k p s sender hc hpasses => ?_, fun e role h k p => ?_⟩
  · refine ⟨_, exec_passes hc hpasses, ?_⟩
    simp [heard, tableUpdated, setPeer, frameTaken, peer]
  · intro e' changed last
    have hlast : (e.heardAs role h.fresh).lastSeq = last := by rw [heardAs_eq]
    have hmissed : (e.heardAs role h.fresh).missed = e.missed := by rw [heardAs_eq]
    have hbeacon (hk : k = 1) : e' = { (e.heardAs role h.fresh).applySeq
        (if beaconStarted p then .startedBeacon else .otherBeacon) h.seq with beaconSeen := beaconState p } := if_pos hk
    have hother (hk : k ≠ 1) : e' = (e.heardAs role h.fresh).applySeq .accounting h.seq := if_neg hk
    have hregular {b : Byte} (hk : k = 1) (hb : p[1]? = some b) (hbit : b.getLsbD 0 = false) :
        e' = { (e.heardAs role h.fresh).applySeq .otherBeacon h.seq with beaconSeen := beaconState p } := by
      rw [hbeacon hk, beaconStarted_of_byte hb, hbit]
      rfl
    have hkeeps : ∃ q missed seen, e' = { e.heardAs role h.fresh with
        lastSeq := q, missed := missed, beaconSeen := seen } ∧ (k ≠ 1 → seen = e.beaconSeen) := by
      by_cases hk : k = 1
      · obtain ⟨q, missed, heq⟩ := applySeq_keeps (e.heardAs role h.fresh)
          (if beaconStarted p then .startedBeacon else .otherBeacon) h.seq
        exact ⟨q, missed, beaconState p, by rw [hbeacon hk, heq], fun hne => absurd hk hne⟩
      · obtain ⟨q, missed, heq⟩ := applySeq_keeps (e.heardAs role h.fresh) .accounting h.seq
        exact ⟨q, missed, e.beaconSeen, by rw [hother hk, heq, heardAs_eq], fun _ => rfl⟩
    obtain ⟨q, missed, seen, heq, hseen⟩ := hkeeps
    refine ⟨by rw [heq, heardAs_eq], by rw [heq, heardAs_eq], by rw [heq, heardAs_eq], by rw [heq, heardAs_eq],
      by rw [heq, heardAs_eq], fun hk => by rw [heq]; exact hseen hk, fun hk h0 => ?_, fun hk h0 => ?_,
      fun hk hnone => ?_, fun q hk hsome => ?_, fun b hk hb hbit => ?_, fun b hk hb hbit hnone => ?_,
      fun b q hk hb hbit hsome => ?_⟩
    · rw [hbeacon hk]
      simp [beaconState_of_head h0]
    · rw [hbeacon hk]
      simp [beaconState_of_head h0]
    · rw [hother hk, applySeq_first (use := .accounting) _ (hlast.trans hnone) (by decide)]
      exact ⟨rfl, hmissed⟩
    · rw [hother hk, ← hmissed]
      exact applySeq_accounting _ (hlast.trans hsome)
    · rw [hbeacon hk, beaconStarted_of_byte hb, hbit]
      exact ⟨rfl, hmissed⟩
    · rw [hregular hk hb hbit, applySeq_first _ (hlast.trans hnone) (by decide)]
      exact ⟨rfl, hmissed⟩
    · rw [hregular hk hb hbit, ← hmissed]
      exact applySeq_otherBeacon _ (hlast.trans hsome)

/-! ### PEER-SILENT (R16, R18) -/

/-- PEER-SILENT decided: in RUN its condition starts or ends, and elsewhere nothing (R18). -/
theorem reportPeerSilent_of_run {s : State} (h : s.part.stationState = .run) : reportPeerSilent s =
    if peerSilentHolds s then conditionStarts .peerSilent s else conditionEnds .peerSilent s := if_pos h

theorem vector_any_iff {n : Nat} {α : Type} (v : Vector α n) (f : α → Bool) :
    v.toList.any f = true ↔ ∃ i : Fin n, f v[i] = true := by
  simp only [List.any_eq_true]
  constructor
  · rintro ⟨a, ha, hf⟩
    obtain ⟨i, hi, rfl⟩ := List.mem_iff_getElem.1 ha
    exact ⟨⟨i, by simpa using hi⟩, by simpa using hf⟩
  · rintro ⟨i, hf⟩
    exact ⟨v[i], by simp, hf⟩

/-- The two conditions of R18 for a depended role. -/
theorem roleSilent_iff (s : State) (d : Role) : roleSilent s.pt d = true ↔
    (∃ n : StationNo, (peer s n).role = some d ∧ (peer s n).state = .silent) ∨
      ((∀ n : StationNo, (peer s n).role = some d → (peer s n).state = .absent) ∧ 10000 ≤ s.pt.runMs) := by
  have hpresent : (s.pt.peers.toList.any fun e => e.role == some d && e.state != .absent) = false ↔
      ∀ n : StationNo, (peer s n).role = some d → (peer s n).state = .absent := by
    rw [← Bool.not_eq_true, vector_any_iff]
    simp [peer]
  simp only [roleSilent, Bool.or_eq_true, vector_any_iff, Bool.and_eq_true, Bool.not_eq_true', hpresent,
    decide_eq_true_eq, beq_iff_eq]
  rfl

/-- Settles O20: the expiries decide PEER-SILENT over the table, and its condition is that of R18. -/
theorem silentPeersAreReported : Obligations.SilentPeersAreReported := by
  refine ⟨fun n s hstate hheard => ?_, fun s hrun => ?_, fun s r hrun hrole => ?_, rfl, rfl, rfl, rfl, rfl⟩
  · intro u
    have hexec : exec (.peerSilenceExpiry n) s = .next (reportPeerSilent u) := by
      have hacts : peerTimersRun s = true ∧ (peer s n).state = .heard := by simpa [peerTimersRun, hheard] using hstate
      simp only [exec, execPeerSilenceExpiry, if_pos hacts]
      rfl
    rw [hexec]
    rcases hstate with hstate | hstate
    · rw [if_pos hstate]
      exact congrArg _ (if_neg (by simp [u, hstate]))
    · rw [if_neg (by simp [hstate]), reportPeerSilent_of_run (by exact hstate)]
  · simp only [exec, execPeerAbsenceTimeout, if_pos hrun]
    exact congrArg _ (reportPeerSilent_of_run (by exact hrun))
  · simp [peerSilentHolds, hrun, hrole, roleSilent_iff]

end Sys2Proof.Machine
end

section
/-! PROOFS. The crop day and the notices that the weighbridges and the tippler take (R45, R59, R61 to R73, R116, R143). -/

namespace Sys2Proof.Machine

/-! ### The offer over a state that differs in other blocks -/

theorem takeQueueHead_over {s t : State} (hpart : t.part = s.part) (hli : t.li = s.li) :
    takeQueueHead t = { t with li := (takeQueueHead s).li } := by
  obtain ⟨part, li, pt, wu, tu, cc, cl, ja, ra, mu, fp, clock, wires, pending⟩ := t
  cases hpart
  cases hli
  unfold takeQueueHead
  dsimp only
  split <;> rfl

theorem abandonWaitingBeacon_over {s t : State} (hli : t.li = s.li) (hm : t.mu = s.mu) (hf : t.fp = s.fp) :
    abandonWaitingBeacon t = { t with
      li := (abandonWaitingBeacon s).li, mu := (abandonWaitingBeacon s).mu, fp := (abandonWaitingBeacon s).fp } := by
  unfold abandonWaitingBeacon
  rw [hli]
  split
  · rw [dropFrame_over hm hf, dropFrame_over (s := s) (t := s) rfl rfl, hli]
  · rw [← hli, ← hm, ← hf]

/-- An offered notice changes the line interface, the monitors and the field port alone, by what they and the part held
(R10). -/
theorem offer_over {s t : State} (n : Notice) (ages : Option AgePair) (hpart : t.part = s.part) (hli : t.li = s.li)
    (hm : t.mu = s.mu) (hf : t.fp = s.fp) :
    offer n ages t = { t with
      li := (offer n ages s).li, mu := (offer n ages s).mu, fp := (offer n ages s).fp } := by
  obtain ⟨part, li, pt, wu, tu, cc, cl, ja, ra, mu, fp, clock, wires, pending⟩ := t
  cases hpart
  cases hli
  cases hm
  cases hf
  unfold offer
  dsimp only
  split
  · have habandon := abandonWaitingBeacon_over (s := enqueue n ages s)
      (t := enqueue n ages ⟨s.part, s.li, pt, wu, tu, cc, cl, ja, ra, s.mu, s.fp, clock, wires, pending⟩) rfl rfl rfl
    have hhead := takeQueueHead_over (s := abandonWaitingBeacon (enqueue n ages s))
      (t := abandonWaitingBeacon (enqueue n ages ⟨s.part, s.li, pt, wu, tu, cc, cl, ja, ra, s.mu, s.fp, clock, wires,
        pending⟩)) (by simp [enqueue]) (by rw [habandon])
    rw [hhead, habandon]
    refine State.ext_blocks rfl rfl rfl rfl rfl rfl rfl rfl rfl ?_ ?_ rfl rfl rfl <;> simp
  · refine State.ext_blocks ?_ ?_ ?_ ?_ ?_ ?_ ?_ ?_ ?_ ?_ (emit_fp _ rfl) ?_ ?_ ?_ <;> simp [setCounters]

/-- An offered notice goes past a change of the weigh unit. -/
theorem offer_setWu (n : Notice) (ages : Option AgePair) (x : WeighUnit) (s : State) :
    offer n ages (s.setWu x) = (offer n ages s).setWu x := by
  rw [offer_over (s := s) (t := s.setWu x) n ages rfl rfl rfl rfl]
  apply State.ext_blocks <;> simp

/-! ### The crop day -/

/-- A day of another value is held with its event, and at ENTRY the consignment sequence restarts (R45, R46, R59). -/
theorem adoptDay_eq (d : Nat) (u : State) : adoptDay d u =
    if d = u.part.day then u
    else { u with
      part := { u.part with day := d }
      wu := if u.part.role = some .entry then { u.wu with consSeq := 1 } else u.wu
      fp := (emit (.dayChanged u.part.day d) u).fp } := by
  unfold adoptDay
  split
  · rfl
  · dsimp only
    rw [emit_over (s := u) (t := u.setPart { u.part with day := d }) _ rfl]
    split <;> rfl

/-- Settles O21: a beacon of LAB and a DAY-END reach `adoptDay` past the checks. -/
theorem lineDaysAreAdopted : Obligations.LineDaysAreAdopted := by
  intro h p s sender hpasses adopted
  have hadopted (k d : Nat) (hrole : s.part.role ≠ some .lab) :
      adoptDay d (heard sender h k p s) = adopted d (heard sender h k p s) := by
    simp [adoptDay_eq, adopted, hrole]
  have hlab (d : Nat) (u : State) (hrole : s.part.role = some .lab) : adopted d u = u := by simp [adopted, hrole]
  refine ⟨fun b hb => ?_, fun n hn hsender hworks => ?_⟩
  · rw [exec_notice (k := 1) (r := .beacon b) rfl hpasses rfl (by simp [readNotice, sendingRole, hb])]
    simp only [actOn, takeBeacon, heard_frame]
    by_cases hrole : s.part.role = some .lab
    · simp [hrole, hlab]
    · simp only [ne_eq, hrole, not_false_eq_true, true_and, hadopted 1 _ hrole]
  · rw [exec_notice (k := 6) (r := .notice (.dayEnd n)) rfl hpasses rfl (by simp [readNotice, sendingRole, hn, hsender])]
    have hmill : runsAs .mill (heard sender h 6 p s) = false := by
      rw [← Bool.not_eq_true, runsAs_iff]
      simpa [Works] using hworks
    simp only [actOn, takeDayEndNotice, heard_frame, hmill]
    by_cases hrole : s.part.role = some .lab
    · simp [hrole, hlab]
    · simp [hrole, hadopted 6 _ hrole]

/-- Settles O22: the day adopted, the summary offered over the counters as they stand, and then the zeroing. -/
theorem millDayEndSamplesAndZeroes : Obligations.MillDayEndSamplesAndZeroes := by
  intro h p s n hworks hpasses hn u v onCarrier summary
  have hmill : runsAs .mill u = true := by rw [runsAs_iff]; simpa [u, Works] using hworks
  have hadopt : adoptDay n.newDay u = v := by
    simp [adoptDay_eq, u, v, hworks.2]
  have hpart : v.part.role = some .mill ∧ v.cl = s.cl ∧ v.ja = s.ja := by
    by_cases hday : n.newDay = s.part.day <;> simp [v, u, hday, hworks.2]
  have hmass : onCarrierMass s.cl.lots = ((s.cl.lots.filter (·.state ≠ .draining)).map (·.massRem)).sum := by
    have hlive : (fun l : Lot => l.state != .draining) = fun l => decide (l.state ≠ .draining) := by
      funext l
      cases l.state <;> rfl
    rw [onCarrierMass, hlive]
  have hcounters : millCounters v = summary := by
    simp only [millCounters, hpart, hmass]
    rfl
  have htaken : actOn .lab (.notice (.dayEnd n)) u = takeDayEndAtMill n v := by
    have hrole : u.part.role ≠ some .lab := by simp [u, hworks.2]
    simp only [actOn, takeDayEndNotice, hmill, hrole, if_true, if_false, hadopt]
  have hexec : exec (.receiveDayEnd h p) s = .next (actOn .lab (.notice (.dayEnd n)) u) :=
    exec_notice (k := 6) rfl hpasses rfl (by simp [readNotice, sendingRole, hn])
  rw [hexec, htaken, takeDayEndAtMill, hcounters]
  simp only [zeroDay, offer_frame, hpart, hmass, State.setCl, State.setJa]
  rfl

/-! ### EXIT's open consignment table (R61, R62, R66, R67) -/

/-- An expiry offers the NET with the tare found, basis ESTIMATED, or the default one, and the entry leaves (R66, R67). -/
theorem expireOpen_eq (e : OpenEntry) (u : State) :
    let found := u.wu.tares.find? (·.plate = e.plate)
    let tare := (found.map (·.tare)).getD (exitCfg u).defaultTare
    expireOpen e u = { offer (.net ⟨e.key, e.plate, e.grower, e.gross, tare, e.gross - tare,
        if found.isSome then .estimated else .defaulted, decide (e.gross < tare)⟩) none u with
      wu := { u.wu with openTable := u.wu.openTable.filter (·.key ≠ e.key), tares := tareUsed e.plate u.wu.tares } } := by
  intro found tare
  have hbasis : (tareLookup e.plate u.wu.tares).isSome = found.isSome := Option.isSome_map
  simp only [expireOpen, offer_setWu, hbasis]
  rfl

/-- Settles O23: the table's join, its oldest expired at 64, and the expiry. -/
theorem exitKeepsTheOpenTable : Obligations.ExitKeepsTheOpenTable := by
  unfold Obligations.ExitKeepsTheOpenTable
  intro expired joined
  have hexpire (e : OpenEntry) (u : State) : expireOpen e u = expired e u := expireOpen_eq e u
  refine ⟨fun h p s n hworks hpasses hn => ?_, fun key e s hworks hfind => ?_⟩
  · intro u
    have hexit : runsAs .exit u = true := by rw [runsAs_iff]; simpa [u, Works] using hworks
    have hexec : exec (.receiveGross h p) s = .next (takeGrossAtExit n u) := by
      rw [exec_notice (k := 2) (r := .notice (.gross n)) rfl hpasses rfl (by simp [readNotice, sendingRole, hn])]
      simp only [actOn, takeGross, u, hexit, if_true]
    have hwu : u.wu = s.wu := by simp [u]
    rw [hexec]
    rw [← hwu]
    refine ⟨fun hknown => ?_, fun hnew hroom => ?_, fun e rest hnew hfull hhead => ?_⟩
    · have hany : (u.wu.openTable.any fun e => decide (e.key = n.key)) = true := by simpa using hknown
      simp only [takeGrossAtExit, hany, if_true]
      rfl
    · have hany : (u.wu.openTable.any fun e => decide (e.key = n.key)) = false := by simpa using hnew
      have hroom : ¬ Limits.openTable ≤ u.wu.openTable.length := not_le.2 hroom
      simp only [takeGrossAtExit, hany, if_neg hroom]
      rfl
    · have hany : (u.wu.openTable.any fun e => decide (e.key = n.key)) = false := by simpa using hnew
      have hfull : Limits.openTable ≤ u.wu.openTable.length := hfull
      have holdest : u.wu.openTable.head? = some e := by rw [hhead]; rfl
      simp only [takeGrossAtExit, hany, if_pos hfull, holdest, hexpire]
      rfl
  · have hexit : runsAs .exit s = true := (runsAs_iff _ _).2 hworks
    simp only [exec, execOpenEntryExpiry, hexit, if_true, hfind, hexpire]

/-! ### TIP's awaiting table (R70, R72, R73) -/

/-- Settles O24: the checks of R72 in order, and the removals. -/
theorem tipKeepsTheAwaitingTable : Obligations.TipKeepsTheAwaitingTable := by
  refine ⟨fun h p s n hworks hpasses hn => ?_, fun h p s n hworks hpasses hn => ?_, fun key s hworks => ?_⟩
  · intro u known joined
    have htip : runsAs .tip u = true := by rw [runsAs_iff]; simpa [u, Works] using hworks
    have hexit : runsAs .exit u = false := runsAs_other ((runsAs_iff _ _).1 htip) (by decide)
    have hexec : exec (.receiveGross h p) s = .next (takeGrossAtTip n u) := by
      rw [exec_notice (k := 2) (r := .notice (.gross n)) rfl hpasses rfl (by simp [readNotice, sendingRole, hn])]
      simp [actOn, takeGross, u, htip, hexit]
    have htu : u.tu = s.tu := by simp [u]
    have hknown : (u.tu.awaiting.any (fun e => decide (e.key = n.key)) ||
        u.tu.arming.any fun a => decide (a.key = n.key)) = true ↔ known := by
      rw [htu, Bool.or_eq_true, Option.any_eq_true]
      simp [known]
    rw [hexec]
    refine ⟨fun hk => ?_, fun hk hroom => ?_, fun hk hfull => ?_⟩
    · simp only [takeGrossAtTip, if_pos (hknown.2 hk)]
      rfl
    · have hroom : ¬ Limits.awaiting ≤ u.tu.awaiting.length := by rw [htu]; exact not_le.2 hroom
      simp only [takeGrossAtTip, if_neg (mt hknown.1 hk), if_neg hroom]
      simp only [htu]
      rfl
    · have hfull : Limits.awaiting ≤ u.tu.awaiting.length := by rw [htu]; exact hfull
      simp only [takeGrossAtTip, if_neg (mt hknown.1 hk), if_pos hfull]
      simp only [htu]
      rfl
  · rw [exec_notice (k := 3) (r := .notice (.net n)) rfl hpasses rfl (by simp [readNotice, sendingRole, hn])]
    have htip : runsAs .tip (heard .exit h 3 p s) = true := by rw [runsAs_iff]; simpa [Works] using hworks
    simp only [actOn, takeNet, htip, if_true, takeNetAtTip, heard_frame, State.setTu]
  · simp only [exec, execAwaitingEntryExpiry, (runsAs_iff _ _).2 hworks, if_true]
    rfl

end Sys2Proof.Machine
end

section
/-! PROOFS. The weigh unit and the tip unit (R48 to R60, R63 to R69, R74 to R82). -/

namespace Sys2Proof.Machine

/-! ### The vehicle tare table (R68) -/

theorem tareUsed_of_find {plate : Plate} {t : List TareEntry} {e : TareEntry}
    (h : t.find? (·.plate = plate) = some e) : tareUsed plate t = e :: t.filter (·.plate ≠ plate) := by
  simp [tareUsed, h]

theorem tareUsed_of_absent {plate : Plate} {t : List TareEntry} (h : ∀ e ∈ t, e.plate ≠ plate) :
    tareUsed plate t = t := by
  have hfind : t.find? (·.plate = plate) = none := by simpa using h
  simp [tareUsed, hfind]

theorem filter_plate_of_absent {plate : Plate} {t : List TareEntry} (h : ∀ e ∈ t, e.plate ≠ plate) :
    t.filter (·.plate ≠ plate) = t := List.filter_eq_self.2 (by simpa using h)

/-- An element of a list with distinct keys splits it, and no other element has its key. -/
theorem split_of_distinct {α κ : Type} {f : α → κ} {l : List α} (hd : l.Pairwise fun a b => f a ≠ f b) {e : α}
    (he : e ∈ l) : ∃ before after, l = before ++ e :: after ∧ ∀ x ∈ before ++ after, f x ≠ f e := by
  obtain ⟨before, after, rfl⟩ := List.append_of_mem he
  refine ⟨before, after, rfl, fun x hx => ?_⟩
  rw [List.pairwise_append, List.pairwise_cons] at hd
  obtain ⟨-, ⟨hafter, -⟩, hbefore⟩ := hd
  rcases List.mem_append.1 hx with hx | hx
  · exact hbefore x hx e List.mem_cons_self
  · exact (hafter x hx).symm

/-- Without the one element of a key, a list with distinct keys is one shorter. -/
theorem length_filter_key {α κ : Type} [DecidableEq κ] {f : α → κ} {l : List α}
    (hd : l.Pairwise fun a b => f a ≠ f b) {e : α} (he : e ∈ l) :
    (l.filter fun x => f x ≠ f e).length + 1 = l.length := by
  obtain ⟨before, after, rfl, hne⟩ := split_of_distinct hd he
  have hkept : (before ++ e :: after).filter (fun x => f x ≠ f e) = before ++ after := by
    have hrest : (before ++ after).filter (fun x => f x ≠ f e) = before ++ after :=
      List.filter_eq_self.2 (by simpa using hne)
    rw [← hrest]
    simp
  rw [hkept]
  simp [Nat.add_assoc]

/-- A lookup of another plate does not see the plate's entry. -/
theorem find_filter_of_ne {plate q : Plate} (h : q ≠ plate) (t : List TareEntry) :
    (t.filter (·.plate ≠ plate)).find? (·.plate = q) = t.find? (·.plate = q) := by
  rw [List.find?_filter]
  congr 1
  funext e
  by_cases he : e.plate = q <;> simp [he, h]

theorem pairwise_write {plate : Plate} {t u : List TareEntry} (e : TareEntry) (he : e.plate = plate)
    (hd : t.Pairwise fun a b => a.plate ≠ b.plate) (hu : u.Sublist (t.filter (·.plate ≠ plate))) :
    (e :: u).Pairwise fun a b => a.plate ≠ b.plate := by
  refine List.pairwise_cons.2 ⟨fun x hx => ?_, (hd.filter _).sublist hu⟩
  have hne := (List.mem_filter.1 (hu.subset hx)).2
  simpa [he] using Ne.symm (by simpa using hne)

/-- Settles O25: the plate's entry moves to the front or is added there, and nothing else changes but the 129th. -/
theorem tareTablesKeepTheOrderOfUse : Obligations.TareTablesKeepTheOrderOfUse := by
  intro plate tare t hlength hdistinct
  have hwrite : (tareWrite plate tare t).length ≤ 128 := by
    simp [tareWrite, Limits.tareTable]
  have hlookup : tareLookup plate (tareWrite plate tare t) = some tare := by simp [tareLookup, tareWrite]
  by_cases hpresent : ∃ e ∈ t, e.plate = plate
  · have hsome : (t.find? (·.plate = plate)).isSome = true := List.find?_isSome.2 (by simpa using hpresent)
    obtain ⟨e, hfind⟩ := Option.isSome_iff_exists.1 hsome
    have he : e ∈ t := List.mem_of_find?_eq_some hfind
    have hplate : e.plate = plate := by simpa using List.find?_some hfind
    have hcount : (t.filter (·.plate ≠ plate)).length + 1 = t.length := by
      rw [← hplate]
      exact length_filter_key hdistinct he
    have hused := tareUsed_of_find hfind
    have hwritten : tareWrite plate tare t = ⟨plate, tare⟩ :: t.filter (·.plate ≠ plate) := by
      rw [tareWrite, List.take_of_length_le]
      simp only [Limits.tareTable]
      omega
    refine ⟨hwrite, ?_, ?_, ?_, fun q => ?_, hlookup, rfl, fun _ => ⟨?_, fun q hq => ?_, e, hused, he, hplate⟩,
      fun habsent => ?_⟩
    · rw [hwritten]
      exact pairwise_write _ rfl hdistinct (List.Sublist.refl _)
    · rw [hused]
      exact pairwise_write _ hplate hdistinct (List.Sublist.refl _)
    · rw [hused, List.length_cons, hcount]
    · rw [hused]
      by_cases hq : q = plate
      · simp [tareLookup, hq, hplate, hfind]
      · have hne : ¬e.plate = q := fun h => hq (h.symm.trans hplate)
        simp only [tareLookup, List.find?_cons, hne, decide_false, find_filter_of_ne hq]
    · rw [hwritten]
      rfl
    · have hne : ¬plate = q := fun h => hq h.symm
      rw [hwritten]
      simp only [tareLookup, List.find?_cons, hne, decide_false, find_filter_of_ne hq]
    · exact absurd hplate (habsent e he)
  · have habsent : ∀ e ∈ t, e.plate ≠ plate := fun e he hp => hpresent ⟨e, he, hp⟩
    have hused := tareUsed_of_absent habsent
    have hwritten : tareWrite plate tare t = ⟨plate, tare⟩ :: t.take 127 := by
      rw [tareWrite, filter_plate_of_absent habsent]
      rfl
    refine ⟨hwrite, ?_, ?_, ?_, fun q => by rw [hused], hlookup, rfl, fun h => absurd h hpresent, fun _ => ⟨hwritten,
      hused, ?_⟩⟩
    · exact pairwise_write _ rfl hdistinct (List.take_sublist _ _)
    · rw [hused]
      exact hdistinct
    · rw [hused]
    · simpa [tareLookup] using habsent

/-! ### VEHICLE (R48, R49) -/

/-- A record that no step of R184 refuses is its owning rule on the hunting receiver. -/
theorem exec_record {c : Instr} {k : RecordKind} {p : List Byte} {s : State} (hc : asRecord c = some (k, p))
    (hport : PortTakes s) (hr : refusal k p s = none) : exec c s = .next (ownRule k p (hunting s)) := by
  rw [exec_asRecord s hc, decideRecord_own hport hr]

/-- In RUN no step of R184 refuses a record that the role serves, in a length it has. -/
theorem refusal_none_of_run {k : RecordKind} {p : List Byte} {s : State} (hrun : s.part.stationState = .run)
    (hserved : servedBy k s.part.role = true) (hlength : lengthOk k s.part.role p.length = true)
    (hk : k ≠ .configure) : refusal k p s = none := by
  have hserves : stateServes k .run = true := by cases k <;> first | rfl | exact absurd rfl hk
  simp [refusal, hrun, hserved, hlength, hk, hserves]

theorem replyTo_hunting (k : RecordKind) (code : ReplyCode) (s : State) :
    replyTo k code (hunting s) = { s with fp := repliedTo k code s } := rfl

/-- A vehicle keyed cancels the one in hand, and is in hand in ARMED (R49). -/
theorem takeVehicle_hunting (v : Vehicle) (s : State) :
    replyTo .vehicle .accepted (takeVehicle v (hunting s)) = { s with
      wu := { s.wu with capture := .armed, runCount := 0, runCentre := none, vehicle := some v }
      fp := acceptedAfter .vehicle (s.wu.vehicle.toList.map fun v => .cancelled v.plate) s } := by
  unfold takeVehicle acceptedAfter
  have hwu : (hunting s).wu = s.wu := rfl
  rw [hwu]
  cases s.wu.vehicle with
  | none => rfl
  | some old =>
    dsimp only
    rw [emit_over (s := hunting s) (t := hunting s) _ rfl]
    rfl

/-- Settles O26: the refusals of R48 in their order, and the vehicle taken in hand. -/
theorem vehicleIsTakenInHand : Obligations.VehicleIsTakenInHand := by
  intro p s r hworks hport hlength plate bad
  obtain ⟨hrun, hrole⟩ := hworks
  have hrefusal : refusal .vehicle p s = none := by
    refine refusal_none_of_run hrun ?_ ?_ (by decide) <;>
      rcases hlength with ⟨rfl, hp⟩ | ⟨rfl, hp⟩ <;> simp [servedBy, lengthOk, hrole, hp]
  have hexec : exec (.vehicle p) s = .next (ownVehicle p (hunting s)) := exec_record rfl hport hrefusal
  have hvehicle : readVehicle s.part.role p = ⟨plate, if r = .entry then some (field p 8 2) else none⟩ := by
    simp [readVehicle, plate, hrole]
  have hbad : (!(plate.all plateChar) ||
      (if r = .entry then some (field p 8 2) else none) == some 0) = true ↔ bad := by
    rcases hlength with ⟨rfl, -⟩ | ⟨rfl, -⟩ <;> simp [bad]
  have hmon : mon (hunting s) .scaleOver = mon s .scaleOver := mon_hunting s _
  have hpart : (hunting s).part = s.part := rfl
  have hunknown : (s.part.role = some .entry ∧ s.part.day = 0) ↔ (r = .entry ∧ s.part.day = 0) := by simp [hrole]
  rw [hexec]
  simp only [ownVehicle, hpart, hmon, hvehicle]
  refine ⟨fun h => ?_, fun h hr hday => ?_, fun h hday hover => ?_, fun h hday hover => ?_⟩
  · rw [if_pos (hbad.2 h), replyTo_hunting]
  · rw [if_neg (mt hbad.1 h), if_pos (hunknown.2 ⟨hr, hday⟩), replyTo_hunting]
  · rw [if_neg (mt hbad.1 h), if_neg (fun hu => hday (hunknown.1 hu).1 (hunknown.1 hu).2), if_pos hover, replyTo_hunting]
  · rw [if_neg (mt hbad.1 h), if_neg (fun hu => hday (hunknown.1 hu).1 (hunknown.1 hu).2), if_neg (by simp [hover]),
      takeVehicle_hunting]

/-! ### Captures (R55, R59, R60, R63 to R65, R67, R69) -/

theorem find_of_split {α : Type} {p : α → Bool} {l before after : List α} {e : α} (hl : l = before ++ e :: after)
    (he : p e = true) (hbefore : ∀ x ∈ before, p x = false) : l.find? p = some e := by
  rw [hl, List.find?_append, List.find?_eq_none.2 (by simpa using hbefore)]
  simp [he]

/-- Settles O28: an ENTRY capture makes a key, and an EXIT capture matches the oldest entry of the plate or none. -/
theorem capturesGiveGrossAndNet : Obligations.CapturesGiveGrossAndNet := by
  refine fun mass v s => ⟨fun grower hgrower => ?_, fun before e after htable he hbefore => ?_, fun hnone => ?_⟩
  · simp only [grossCapture, hgrower]
    rfl
  · have hfind : s.wu.openTable.find? (·.plate = v.plate) = some e :=
      find_of_split htable (by simpa using he) (by simpa using hbefore)
    simp only [tareCapture, hfind, removeOpen, offer_frame, State.setWu]
    rfl
  · have hfind : s.wu.openTable.find? (·.plate = v.plate) = none := by simpa using hnone
    simp only [tareCapture, hfind, emit_frame, State.setWu]

/-! ### Readings (R50 to R57) -/

section Reading
variable (c : WeighSettings) (r : Reading)

theorem classify_over_iff : r.classify c = .over ↔ r.status = 2 ∨ r.status = 3 ∨ (c.capacity : Int) < r.weight := by
  unfold Reading.classify
  (repeat' split) <;> simp_all

theorem classify_zero_iff : r.classify c = .zero ↔
    ¬(r.status = 2 ∨ r.status = 3 ∨ (c.capacity : Int) < r.weight) ∧
      r.status = 0 ∧ -(c.zeroBand : Int) ≤ r.weight ∧ r.weight ≤ c.zeroBand := by
  unfold Reading.classify
  (repeat' split) <;> simp_all

theorem classify_load_iff : r.classify c = .load ↔
    ¬(r.status = 2 ∨ r.status = 3 ∨ (c.capacity : Int) < r.weight) ∧
      ¬(¬(r.status = 2 ∨ r.status = 3 ∨ (c.capacity : Int) < r.weight) ∧
        r.status = 0 ∧ -(c.zeroBand : Int) ≤ r.weight ∧ r.weight ≤ c.zeroBand) ∧
      r.status = 0 ∧ (c.minLoad : Int) ≤ r.weight := by
  unfold Reading.classify
  (repeat' split) <;> simp_all

theorem inBand_iff (centre : Int) : r.inBand c centre = true ↔
    r.status = 0 ∧ centre - c.band ≤ r.weight ∧ r.weight ≤ centre + c.band ∧ (c.zeroBand : Int) < r.weight ∧
      r.weight ≤ c.capacity := by
  simp only [Reading.inBand, Bool.and_eq_true, decide_eq_true_eq]
  tauto

theorem reading_inRange_iff : r.inRange = true ↔ ¬(r.weight < -99999 ∨ 199999 < r.weight ∨ 3 < r.status) := by
  simp only [Reading.inRange, Bool.and_eq_true, decide_eq_true_eq]
  omega

end Reading

theorem weighCfg_of_part {s t : State} (h : t.part = s.part) : weighCfg t = weighCfg s := by rw [weighCfg, weighCfg, h]

/-- A zero reading sets zero-seen (R52). -/
theorem zeroStep_eq {r : Reading} {s : State} {zero : Prop} [Decidable zero]
    (h : r.classify (weighCfg s) = .zero ↔ zero) :
    zeroStep r s = { s with wu := { s.wu with zeroSeen := s.wu.zeroSeen || decide zero } } := by
  by_cases hz : zero
  · simp [zeroStep, h, hz, State.setWu]
  · simp [zeroStep, h, hz]

/-- SCALE-OVER takes a reading (R56, R57). -/
theorem scaleOverStep_eq {r : Reading} {s : State} {isOver : Prop} [Decidable isOver]
    (h : r.classify (weighCfg s) = .over ↔ isOver) :
    scaleOverStep r s = if isOver then observe .scaleOver s
      else if r.status = 0 then endingEvent .scaleOver (observeContrary .scaleOver s)
      else observeContrary .scaleOver s := by
  unfold scaleOverStep
  by_cases ho : isOver
  · rw [if_pos (h.2 ho), if_pos ho]
  · rw [if_neg (mt h.1 ho), if_neg ho]

/-- In SETTLING a reading extends the run, completes it, starts it anew or breaks it (R54, R55). -/
theorem captureStep_settling {r : Reading} {s : State} {centre : Int} {load inRun : Prop} [Decidable load]
    (hcapture : s.wu.capture = .settling) (hcentre : s.wu.runCentre = some centre)
    (hload : r.classify (weighCfg s) = .load ↔ load) (hrun : r.inBand (weighCfg s) centre = true ↔ inRun) :
    (¬inRun → captureStep r s = { s with
      wu := if load then { s.wu with capture := .settling, runCount := 1, runCentre := some r.weight }
        else { s.wu with capture := .armed, runCount := 0, runCentre := none } }) ∧
    (inRun → s.wu.runCount + 1 < (weighCfg s).stableCount →
      captureStep r s = { s with wu := { s.wu with runCount := s.wu.runCount + 1 } }) ∧
    (inRun → (weighCfg s).stableCount ≤ s.wu.runCount + 1 → captureStep r s = completeCapture r.weight.toNat s) := by
  simp only [captureStep, hcapture, hcentre, Option.getD_some]
  refine ⟨fun hnot => ?_, fun hr hcount => ?_, fun hr hcount => ?_⟩
  · rw [if_neg (mt hrun.1 hnot)]
    by_cases hl : load
    · rw [if_pos (hload.2 hl), if_pos hl]
      rfl
    · rw [if_neg (mt hload.1 hl), if_neg hl]
      rfl
  · rw [if_pos (hrun.2 hr), if_neg (not_le.2 hcount)]
    rfl
  · rw [if_pos (hrun.2 hr), if_pos hcount]

/-- A capture leaves the machine in IDLE with no vehicle, and the role handles the mass (R55). -/
theorem completeCapture_of_vehicle {s : State} {v : Vehicle} (mass : Nat) (hv : s.wu.vehicle = some v) :
    completeCapture mass s =
      let taken := emit (.captured mass) { s with wu := { s.wu with
        capture := .idle, vehicle := none, runCount := 0, runCentre := none, zeroSeen := false } }
      if s.part.role = some .entry then grossCapture mass v taken else tareCapture mass v taken := by
  simp only [completeCapture, hv]
  rfl

/-- The reply of a WEIGHT in range, over the reading taken (R50). -/
theorem ownWeight_eq {p : List Byte} {u v : State} (hin : (readWeight p).inRange = true)
    (h : captureStep (readWeight p) (zeroStep (readWeight p) u) = v) :
    ownWeight p u = answered .weight .accepted (scaleOverStep (readWeight p) v) := by
  rw [ownWeight, if_pos hin, takeReading, h]
  rfl

/-- Settles O27: zero-seen, the capture machine by its state, and SCALE-OVER, in the order of R50. -/
theorem readingsDriveTheCapture : Obligations.ReadingsDriveTheCapture := by
  intro p s role hworks hrole hport hlength w status c isOver zero load u unit armed started monitored after outside
  obtain ⟨hrun, hrole'⟩ := hworks
  have hrefusal : refusal .weight p s = none := by
    refine refusal_none_of_run hrun ?_ ?_ (by decide) <;>
      rcases hrole with rfl | rfl <;> simp [servedBy, lengthOk, hrole', hlength]
  have hexec : exec (.weight p) s = .next (ownWeight p u) := exec_record rfl hport hrefusal
  have hinRange : (readWeight p).inRange = true ↔ ¬outside := reading_inRange_iff _
  have hload : (readWeight p).classify c = .load ↔ load := classify_load_iff _ _
  have hstep : zeroStep (readWeight p) u = { u with wu := unit } := zeroStep_eq (classify_zero_iff _ _)
  have htaken {v : State} (hin : ¬outside) (hv : v.part = s.part)
      (hcapture : captureStep (readWeight p) { u with wu := unit } = v) :
      exec (.weight p) s = .next (answered .weight .accepted (monitored v)) := by
    have hover : (readWeight p).classify (weighCfg v) = .over ↔ isOver := by
      rw [weighCfg_of_part hv]
      exact classify_over_iff _ _
    rw [hexec, ownWeight_eq (hinRange.2 hin) (hstep ▸ hcapture), scaleOverStep_eq hover]
    rfl
  refine ⟨fun hout => ?_, fun hin hidle => ?_, fun hin harmed => ?_, fun centre hin hsettling hcentre => ?_⟩
  · rw [hexec, ownWeight, if_neg (fun h => hinRange.1 h hout), replyTo_hunting]
  · refine htaken hin rfl ?_
    have hcapture : unit.capture = .idle := hidle
    simp only [captureStep, hcapture]
  · have hcapture : unit.capture = .armed := harmed
    have hstarts : ((readWeight p).classify c = .load ∧ unit.zeroSeen = true) ↔ load ∧ s.wu.zeroSeen = true := by
      rw [hload]
      refine and_congr_right fun hl => ?_
      have hzero : ¬zero := hl.2.1
      simp only [unit, hzero, decide_false, Bool.or_false]
    refine htaken hin rfl ?_
    simp only [captureStep, hcapture]
    by_cases hs : load ∧ s.wu.zeroSeen = true
    · exact (if_pos (hstarts.2 hs)).trans (by rw [if_pos hs]; rfl)
    · exact (if_neg (mt hstarts.1 hs)).trans (by rw [if_neg hs])
  · intro inRun
    obtain ⟨hbreaks, hextends, hcompletes⟩ := captureStep_settling (r := readWeight p) (s := { u with wu := unit })
      (centre := centre) hsettling hcentre hload (inBand_iff c _ centre)
    refine ⟨fun hnot => htaken hin rfl (hbreaks hnot), fun hr hcount => htaken hin rfl (hextends hr hcount),
      fun v hr hcount hvehicle => ?_⟩
    have hcomplete := (hcompletes hr hcount).trans (completeCapture_of_vehicle _ hvehicle)
    have hentry : s.part.role = some .entry ↔ role = .entry := by simp [hrole']
    intro taken
    by_cases hr' : role = .entry
    · rw [if_pos hr']
      exact htaken hin (by simp [grossCapture, taken, u]) (hcomplete.trans (if_pos (hentry.2 hr')))
    · rw [if_neg hr']
      refine htaken hin ?_ (hcomplete.trans (if_neg (mt hentry.1 hr')))
      simp [taken, u]

/-! ### Arming (R74 to R77) -/

/-- A synthetic key is armed with one part (R76). -/
theorem armSynthetic_eq (s : State) : armSynthetic s = { s with tu := { s.tu with
    synSeq := if s.tu.synSeq = 4095 then 1 else s.tu.synSeq + 1
    arming := some ⟨⟨s.part.day, s.part.station, s.tu.synSeq, true⟩, true, 1, 1, [(tipCfg s).defaultLotMass]⟩ } } := rfl

/-- An entry found is armed with its part masses (R75). -/
theorem armFound_eq (e : AwaitingEntry) (m : Nat) (s : State) : armFound e m s =
    let total := e.gross - (tareLookup e.plate s.tu.tares).getD (tipCfg s).defaultTare
    { s with tu := { s.tu with
      awaiting := s.tu.awaiting.filter (·.key ≠ e.key)
      tares := tareUsed e.plate s.tu.tares
      arming := some ⟨e.key, false, m, 1, (total / m + total % m) :: List.replicate (m - 1) (total / m)⟩ } } := rfl

/-- The ranges of R74 step 4. -/
theorem assignInRange_iff (p : List Byte) : assignInRange p = true ↔
    1 ≤ assignParts p ∧ assignParts p ≤ 3 ∧
      ((field p 0 1 = 1 ∧ ∀ b ∈ (p.drop 1).take 8, plateChar b = true) ∨
        (field p 0 1 = 2 ∧ (readKey p 1 false).day ≠ 0 ∧ (readKey p 1 false).seq ≠ 0)) := by
  by_cases hplate : field p 0 1 = 1
  · simp [assignInRange, within, hplate, and_assoc]
  · simp [assignInRange, within, hplate, and_assoc]

/-- The entry that an ASSIGN names: the oldest of the plate, or the one of the key (R75). -/
theorem assignedEntry_eq (p : List Byte) (s : State) : assignedEntry p s = s.tu.awaiting.find? fun e =>
    if field p 0 1 = 1 then decide (e.plate = (p.drop 1).take 8) else decide (e.key = readKey p 1 false) := by
  unfold assignedEntry
  split <;> rfl

/-- Settles O29: the refusals of R74 in their order, and what is armed; DISARM's one refusal. -/
theorem assignArmsAndDisarmClears : Obligations.AssignArmsAndDisarmClears := by
  intro p s hworks hport byPlate plate key m wrongLength inRange named
  obtain ⟨hrun, hrole⟩ := hworks
  refine ⟨fun hlength => ?_, fun hlength => ?_⟩
  · have hrefusal : refusal .assign p s = none :=
      refusal_none_of_run hrun (by simp [servedBy, hrole]) (by simpa [lengthOk] using hlength) (by decide)
    have hexec : exec (.assign p) s = .next (ownAssign p (hunting s)) := exec_record rfl hport hrefusal
    have hwrong : (field p 0 1 = 1 ∧ p.length ≠ 10) ∨ (field p 0 1 = 2 ∧ p.length ≠ 6) ↔ wrongLength := by
      simp only [wrongLength, byPlate]
      omega
    have hrange : assignInRange p = true ↔ inRange := assignInRange_iff p
    have htu : (hunting s).tu = s.tu := rfl
    have hdecides (x : AwaitingEntry) : (if field p 0 1 = 1 then decide (x.plate = (p.drop 1).take 8)
        else decide (x.key = readKey p 1 false)) = true ↔ named x := by
      by_cases hplate : field p 0 1 = 1
      · simp only [named, byPlate, if_pos hplate, decide_eq_true_eq, plate]
      · simp only [named, byPlate, if_neg hplate, decide_eq_true_eq, key]
    have haccepted (hw : ¬wrongLength) (hr : inRange) (hidle : s.tu.session = .idle) (hnone : s.tu.arming = none) :
        ownAssign p (hunting s) = replyTo .assign .accepted (takeAssign p (hunting s)) := by
      rw [ownAssign, if_neg (mt hwrong.1 hw), if_neg (by simpa using hrange.2 hr), htu, if_neg (not_not.2 hidle),
        if_neg (by simp [hnone])]
    rw [hexec]
    refine ⟨fun hw => ?_, fun hw hr => ?_, fun hw hr hbusy => ?_, fun hw hr hidle hnone => ⟨?_, fun habsent => ?_⟩⟩
    · rw [ownAssign, if_pos (hwrong.2 hw), replyTo_hunting]
    · rw [ownAssign, if_neg (mt hwrong.1 hw), if_pos (by simpa using mt hrange.1 hr), replyTo_hunting]
    · rw [ownAssign, if_neg (mt hwrong.1 hw), if_neg (by simpa using hrange.2 hr), htu]
      by_cases hsession : s.tu.session = .idle
      · have harmed : s.tu.arming.isSome = true :=
          Option.isSome_iff_ne_none.2 (hbusy.resolve_left fun h => h hsession)
        rw [if_neg (not_not.2 hsession), if_pos harmed, replyTo_hunting]
      · rw [if_pos hsession, replyTo_hunting]
    · intro before e after hsplit hnamed hbefore total
      have hfind : assignedEntry p (hunting s) = some e := by
        rw [assignedEntry_eq]
        exact find_of_split hsplit ((hdecides e).2 hnamed) fun x hx =>
          Bool.eq_false_iff.2 (mt (hdecides x).1 (hbefore x hx))
      rw [haccepted hw hr hidle hnone]
      simp only [takeAssign, hfind, armFound_eq]
      rfl
    · have hfind : assignedEntry p (hunting s) = none := by
        rw [assignedEntry_eq, List.find?_eq_none]
        exact fun x hx => mt (hdecides x).1 (habsent x hx)
      rw [haccepted hw hr hidle hnone]
      simp only [takeAssign, hfind, armSynthetic_eq]
      rfl
  · have hrefusal : refusal .disarm p s = none :=
      refusal_none_of_run hrun (by simp [servedBy, hrole]) (by simp [lengthOk, hlength]) (by decide)
    have hexec : exec (.disarm p) s = .next (ownDisarm (hunting s)) := exec_record rfl hport hrefusal
    have htu : (hunting s).tu = s.tu := rfl
    rw [hexec]
    unfold ownDisarm
    rw [htu]
    refine ⟨fun hbusy => ?_, fun hidle => ?_⟩
    · rw [if_pos hbusy, replyTo_hunting]
    · rw [if_neg (not_not.2 hidle)]
      rfl

/-! ### The tip session (R76, R78 to R82) -/

theorem offer_setTu (n : Notice) (ages : Option AgePair) (x : TipUnit) (s : State) :
    offer n ages (s.setTu x) = (offer n ages s).setTu x := by
  rw [offer_over (s := s) (t := s.setTu x) n ages rfl rfl rfl rfl]
  apply State.ext_blocks <;> simp

/-- A release in SETTLE offers the part's TIP notice, emits TIPPED and advances the part number (R81, R82). -/
theorem tipLot_eq (a : Arming) {age : Nat} {s : State} (hage : s.tu.sessionAge = some age) :
    let flags : LotFlags := { LotFlags.clear with
      synthetic := a.key.synthetic, grossUnknown := a.grossUnknown, positionSuspect := s.tu.overrunMark
      ageSaturated := decide (65535 ≤ age) }
    let u := offer (.tip ⟨a.lot, a.masses.getD (a.next - 1) 0, age, 0, (tipCfg s).distance, flags, 1⟩)
      (some ⟨age, 0, decide (65535 ≤ age)⟩) s
    tipLot a s = { u with
      tu := { s.tu with
        tipLevel := false, tipSteady := 0, session := .idle, sessionAge := none, overrunMark := false
        arming := a.advance }
      fp := (emit (.tipped a.lot) u).fp } := by
  intro flags u
  have hoffered : offer (.tip (tipNotice a s)) (some (newAgePair (s.tu.sessionAge.getD 0))) s = u := by
    rw [tipNotice, hage]
    rfl
  have htu : u.tu = s.tu := by simp [u]
  rw [tipLot, hoffered, emit_over (s := u) (t := u) _ rfl]
  simp only [endSession, State.setTu, htu]

/-- Settles O30: each contact command by the level and the session it finds. -/
theorem tipSessionGivesALot : Obligations.TipSessionGivesALot := by
  intro s hworks started ended
  have htip : runsAs .tip s = true := (runsAs_iff _ _).2 hworks
  refine ⟨fun hlevel harmed => ?_, fun hlevel hnone => ?_, fun hsession => ?_, fun hlevel hsession => ?_,
    fun a age hlevel hsession harming hage => ?_⟩
  · have hsome : s.tu.arming.isSome = true := Option.isSome_iff_ne_none.2 harmed
    simp only [exec, execTippingActive, htip, hlevel, hsome, and_self, if_true]
    rfl
  · simp only [exec, execTippingActive, htip, hlevel, hnone, and_self, if_true, armSynthetic_eq]
    rfl
  · simp only [exec, execMinTipTimeExpiry, htip, hsession, and_self, if_true]
    rfl
  · simp only [exec, execTippingRelease, htip, hlevel, hsession, and_self, if_true]
    rfl
  · simp only [exec, execTippingRelease, htip, hlevel, hsession, harming, and_self, if_true]
    rw [tipLot_eq a hage]
    rfl

end Sys2Proof.Machine
end

section
/-! PROOFS. The carrier counter (R84, R86 to R92). -/

namespace Sys2Proof.Machine

theorem observes_eq_decide (r : MonitorRec) : r.observes = decide (r.mode ≠ none ∧ r.mode ≠ some .off) := by
  rw [MonitorRec.observes, Bool.eq_iff_iff]
  simp

/-- Stalls are watched at MILL in RUN, with RUN taken as active and withholding ended (R91). -/
theorem stallWatched_iff {s : State} {r : Role} (h : Works r s) :
    stallWatched s = true ↔ r = .mill ∧ s.cc.runLevel = true ∧ s.cc.withholding = false := by
  have hmill : runsAs .mill s = true ↔ r = .mill := by
    rw [runsAs_iff]
    simp [Works, h.1, h.2]
  simp [stallWatched, hmill, and_assoc]

theorem carrierRuns_of_works {s : State} {r : Role} (h : Works r s) (hr : r = .tip ∨ r = .mill) :
    carrierRuns s = true := by
  rcases hr with rfl | rfl <;> simp [carrierRuns, (runsAs_iff _ _).2 h]

/-! ### Stall observations (R89 to R92) -/

/-- Settles O32: each command of the measurement and of the RUN contact, by whether stalls are watched. -/
theorem stallObservationsAreMade : Obligations.StallObservationsAreMade := by
  intro s r hworks watched observes stalled saturated
  have hstalled (u : State) (hmu : u.mu = s.mu) : stallObservation u = stalled u := by
    have hobserves : (mon u .carrierStall).observes = observes := by rw [mon_eq _ hmu, observes_eq_decide]
    rw [stallObservation, hobserves]
    rfl
  have hmill (hr : r = .mill) : runsAs .mill s = true := (runsAs_iff _ _).2 (hr ▸ hworks)
  refine ⟨fun hr hmeasure => ?_, fun hwatched hmeasure => ?_, fun hr hlevel => ?_, fun hr hlevel => ?_,
    fun hr hwithholding => ?_⟩
  · have hacts : carrierRuns s = true ∧ s.cc.measure.isSome = true :=
      ⟨carrierRuns_of_works hworks hr, Option.isSome_iff_ne_none.2 hmeasure⟩
    have hexec : exec .speedSaturation s =
        .next (if stallWatched saturated then stallObservation saturated else saturated) := by
      simp only [exec, execSpeedSaturation, if_pos hacts]
      rfl
    have hwatched : stallWatched saturated = true ↔ watched := stallWatched_iff hworks
    rw [hexec]
    by_cases hw : watched
    · rw [if_pos hw, if_pos (hwatched.2 hw), hstalled saturated rfl]
    · rw [if_neg hw, if_neg (mt hwatched.1 hw)]
  · have hacts : stallWatched s = true ∧ s.cc.measure = none := ⟨(stallWatched_iff hworks).2 hwatched, hmeasure⟩
    simp only [exec, execStallQuietInterval, if_pos hacts, hstalled s rfl]
  · simp only [exec, execRunContactActive, hmill hr, hlevel, and_self, if_true]
    rfl
  · simp only [exec, execRunContactRelease, hmill hr, hlevel, and_self, if_true]
    rfl
  · simp only [exec, execStartAllowanceExpiry, hmill hr, hwithholding, and_self, if_true]
    exact congrArg _ (hstalled _ rfl)

/-! ### Step pulses (R84, R86 to R89, R91) -/

/-- A reverse pulse at the debt's limit starts REVERSE-OVERRUN and marks a running session (R79, R86, R88). -/
theorem reverseStep_at_limit {s : State} (h : 65535 ≤ s.cc.debt) :
    reverseStep s = { conditionStarts .reverseOverrun s with
      tu := { s.tu with overrunMark := s.tu.overrunMark || s.tu.session != .idle } } := by
  rw [reverseStep, if_neg (not_lt.2 h), markOverrun]
  simp only [conditionStarts_frame, State.setTu]
  by_cases hidle : s.tu.session = .idle
  · have hmark : (s.tu.overrunMark || s.tu.session != .idle) = s.tu.overrunMark := by simp [hidle]
    rw [if_pos hidle, hmark]
    apply State.ext_blocks <;> simp
  · rw [if_neg hidle]
    simp [hidle]

/-- A net forward step at MILL crushes at the position that the mouth takes (R87, R104). -/
theorem netForwardStep_mill {s : State} (h : s.part.role = some .mill) :
    netForwardStep s = advanceMouth s.cc.p { s with cc := { s.cc with p := s.cc.p + 1 } } := by
  have htip : s.part.role ≠ some .tip := by simp [h]
  exact if_neg htip

/-- A pair one net forward step older (R84). -/
theorem agePair_step_eq (a : AgePair) : a.step =
    let x := min (a.ageStart + 1) 65535
    let y := min (a.ageEnd + 1) 65535
    ⟨x, y, a.saturated || x == 65535 || y == 65535⟩ := rfl

/-- Settles O31: what the pulse does by its direction and the debt, and then what withholding and the measurement make of
it, over a state that has kept their counts. -/
theorem stepPulsesMoveAndMeasure : Obligations.StepPulsesMoveAndMeasure := by
  intro s r hworks hr older range pulsed measured stepped repaid
  have hruns := carrierRuns_of_works hworks hr
  have hpulsed (u : State) (hcc : ∃ p debt, u.cc = { s.cc with p := p, debt := debt }) :
      countRunPulse u = pulsed u := by
    obtain ⟨p, debt, hcc⟩ := hcc
    simp only [countRunPulse, pulsed, hcc]
    rfl
  have hmeasured (u : State) (hpart : u.part = s.part) (hmeasure : u.cc.measure = s.cc.measure) :
      measurePulse u = measured u := by
    have hrange : speedRange u = range := by
      simp only [speedRange, range, millCfg, hpart, hworks.2, Option.some.injEq]
    have hwatched (v : State) (hv : v.part = s.part) : stallWatched v = true ↔
        r = .mill ∧ v.cc.runLevel = true ∧ v.cc.withholding = false := stallWatched_iff ⟨hv ▸ hworks.1, hv ▸ hworks.2⟩
    cases hm : s.cc.measure with
    | none =>
      simp only [measurePulse, measured, hmeasure, hm]
      rfl
    | some m =>
      have hlive (v : State) (hv : v.part = s.part) :
          (stallWatched v && decide (m.cycles < Limits.stopped)) = true ↔
            r = .mill ∧ v.cc.runLevel = true ∧ v.cc.withholding = false ∧ m.cycles < 4095 := by
        rw [Bool.and_eq_true, hwatched v hv, decide_eq_true_eq]
        tauto
      simp only [measurePulse, measured, hmeasure, hm, hrange]
      by_cases hn : m.pulses + 1 < range
      · rw [if_neg (not_le.2 hn), if_pos hn]
        rfl
      · rw [if_pos (not_lt.1 hn), if_neg hn]
        split
        next h => exact (if_pos ((hlive _ hpart).1 h)).symm
        next h => exact (if_neg (mt (hlive _ hpart).2 h)).symm
  have hexec (forward : Bool) {u : State} (hu : (if forward then forwardStep s else reverseStep s) = u)
      (hpart : u.part = s.part) (hcc : ∃ p debt, u.cc = { s.cc with p := p, debt := debt }) :
      exec (.stepPulse forward) s = .next (measured (pulsed u)) := by
    have hkept : (pulsed u).cc.measure = s.cc.measure := by
      obtain ⟨p, debt, hcc⟩ := hcc
      simp only [pulsed, hcc]
    simp only [exec, execStepPulse, if_pos hruns, hu, hpulsed u hcc, hmeasured (pulsed u) hpart hkept]
  refine ⟨fun h => hexec false (if_pos h) rfl ⟨_, _, rfl⟩,
    fun h => hexec false (reverseStep_at_limit h) (by simp) ⟨s.cc.p, s.cc.debt, by simp⟩,
    fun h => hexec true (if_neg h.ne') ?_ ?_, fun h htip => hexec true ((if_pos h).trans (if_pos ?_)) rfl ⟨_, _, rfl⟩,
    fun h hmill => hexec true ((if_pos h).trans (netForwardStep_mill ?_)) ?_ ?_⟩
  · by_cases hlast : s.cc.debt = 1
    · rw [if_pos hlast]
      simp [repaid]
    · rw [if_neg hlast]
  · by_cases hlast : s.cc.debt = 1
    · rw [if_pos hlast]
      exact ⟨s.cc.p, s.cc.debt - 1, by simp [repaid]⟩
    · rw [if_neg hlast]
      exact ⟨s.cc.p, s.cc.debt - 1, rfl⟩
  · rw [hworks.2, htip]
  · rw [hworks.2, hmill]
  · obtain ⟨hpart, -⟩ := advanceMouth_frame s.cc.p stepped
    exact hpart
  · obtain ⟨-, -, -, -, hcc, -⟩ := advanceMouth_frame s.cc.p stepped
    exact ⟨s.cc.p + 1, s.cc.debt, hcc⟩

end Sys2Proof.Machine
end

section
/-! PROOFS. The crush line: masses divided exactly, lots entered and corrected, portions and shares (R75, R94 to R113). -/

namespace Sys2Proof.Machine

/-! ### Masses (R75, R94, R105) -/

theorem sum_partMasses {m : Nat} (total : Nat) (h : 1 ≤ m) : (partMasses total m).sum = total := by
  have hdivided := Nat.mod_add_div total m
  obtain ⟨n, rfl⟩ : ∃ n, m = n + 1 := ⟨m - 1, by omega⟩
  simp only [partMasses, List.sum_cons, List.sum_replicate, smul_eq_mul, Nat.add_sub_cancel]
  rw [Nat.add_mul] at hdivided
  omega

/-- The portion of a lot with a span left is M_rem over S_rem, at the last position too (R105). -/
theorem portion_eq_div {l : Lot} (h : 1 ≤ l.spanRem) : l.portion = l.massRem / l.spanRem := by
  unfold Lot.portion
  split
  next hlast =>
    have hone : l.spanRem = 1 := by omega
    rw [hone, Nat.div_one]
  · rfl

/-- A portion taken leaves M_rem over S_rem no lower. -/
theorem div_le_afterPortion {a b : Nat} (hb : 2 ≤ b) : a / b ≤ (a - a / b) / (b - 1) := by
  rw [Nat.le_div_iff_mul_le (by omega)]
  have hle : a / b * b ≤ a := Nat.div_mul_le_self a b
  obtain ⟨n, rfl⟩ : ∃ n, b = n + 1 := ⟨b - 1, by omega⟩
  rw [Nat.mul_succ] at hle
  simp only [Nat.add_sub_cancel]
  omega

/-- M_rem stays between q and q + 1 for each position left. -/
theorem afterPortion_bounds {a b q : Nat} (hb : 1 ≤ b) (hlow : q * b ≤ a) (hhigh : a ≤ (q + 1) * b) :
    q * (b - 1) ≤ a - a / b ∧ a - a / b ≤ (q + 1) * (b - 1) := by
  have hq : q ≤ a / b := (Nat.le_div_iff_mul_le hb).2 hlow
  have hle : a / b * b ≤ a := Nat.div_mul_le_self a b
  have hlt : a < (a / b + 1) * b := (Nat.div_lt_iff_lt_mul hb).1 (Nat.lt_succ_self _)
  obtain ⟨n, rfl⟩ : ∃ n, b = n + 1 := ⟨b - 1, by omega⟩
  generalize a / (n + 1) = p at hq hle hlt ⊢
  have hqp : q * n ≤ p * n := Nat.mul_le_mul_right n hq
  rw [Nat.mul_succ] at hle hlt hhigh
  simp only [Nat.add_sub_cancel]
  refine ⟨by omega, ?_⟩
  rcases Nat.lt_or_ge q p with h | h
  · omega
  · obtain rfl : q = p := le_antisymm hq h
    omega

/-- The lot after `i` portions. -/
def Lot.afterPortions (l : Lot) (i : Nat) : Lot := Lot.afterPortion^[i] l

theorem afterPortions_succ (l : Lot) (i : Nat) : l.afterPortions (i + 1) = (l.afterPortions i).afterPortion :=
  Function.iterate_succ_apply' _ _ _

/-- Each portion takes one position off the span, and what leaves the lot is crushed. -/
theorem afterPortions_counts (l : Lot) (i : Nat) : (l.afterPortions i).spanRem = l.spanRem - i ∧
    (l.afterPortions i).crushed + (l.afterPortions i).massRem = l.crushed + l.massRem := by
  induction i with
  | zero => exact ⟨rfl, rfl⟩
  | succ i ih =>
    obtain ⟨hspan, hmass⟩ := ih
    have hle := (l.afterPortions i).portion_le
    rw [afterPortions_succ]
    simp only [Lot.afterPortion, hspan]
    omega

/-- Before the last position each position holds between q and q + 1, q the first portion. -/
theorem afterPortions_bounds (l : Lot) {i : Nat} (h : i < l.spanRem) :
    l.massRem / l.spanRem * (l.spanRem - i) ≤ (l.afterPortions i).massRem ∧
    (l.afterPortions i).massRem ≤ (l.massRem / l.spanRem + 1) * (l.spanRem - i) := by
  induction i with
  | zero =>
    exact ⟨Nat.div_mul_le_self .., ((Nat.div_lt_iff_lt_mul (by omega)).1 (Nat.lt_succ_self _)).le⟩
  | succ i ih =>
    obtain ⟨hspan, -⟩ := afterPortions_counts l i
    obtain ⟨hlow, hhigh⟩ := ih (by omega)
    have hstep := afterPortion_bounds (by omega) hlow hhigh
    rw [afterPortions_succ, Lot.afterPortion, portion_eq_div (by omega), hspan]
    simpa only [Nat.sub_sub] using hstep

/-- Settles O35: the parts of an arming by their definition, and the portions of a lot by induction over its positions. -/
theorem massesAreDividedExactly : Obligations.MassesAreDividedExactly := by
  refine ⟨fun total m hm => ⟨?_, sum_partMasses total hm, rfl, fun x hx => ?_⟩, fun l hspan => ?_⟩
  · simp [partMasses]; omega
  · exact List.eq_of_mem_replicate hx
  · intro after
    have hspans (i : Nat) : (after i).spanRem = l.spanRem - i := (afterPortions_counts l i).1
    have hportion {i : Nat} (hi : i < l.spanRem) : (after i).portion = (after i).massRem / (l.spanRem - i) := by
      rw [portion_eq_div (by rw [hspans]; omega), hspans]
    have hdrains : (after l.spanRem).massRem = 0 ∧ (after l.spanRem).state = .draining := by
      obtain ⟨n, hn⟩ : ∃ n, l.spanRem = n + 1 := ⟨l.spanRem - 1, by omega⟩
      have hlast : (after n).spanRem ≤ 1 := by rw [hspans]; omega
      have hafter : after l.spanRem = (after n).afterPortion := hn ▸ afterPortions_succ l n
      have hstate : (after n).afterPortion.state = .draining := if_pos hlast
      rw [hafter]
      exact ⟨Lot.afterPortion_drained _ hstate, hstate⟩
    refine ⟨fun i _ => afterPortions_counts l i, fun i hi => ?_, fun i hi => ?_, hdrains.1, hdrains.2, ?_⟩
    · obtain ⟨hlow, hhigh⟩ := afterPortions_bounds l hi
      rw [hportion hi]
      exact ⟨(Nat.le_div_iff_mul_le (by omega)).2 hlow,
        Nat.div_le_of_le_mul (by rw [Nat.mul_comm]; exact hhigh)⟩
    · have hmass : (after (i + 1)).massRem = (after i).massRem - (after i).massRem / (l.spanRem - i) := by
        have hafter : after (i + 1) = (after i).afterPortion := afterPortions_succ l i
        rw [hafter, Lot.afterPortion, hportion (by omega)]
      rw [hportion (by omega), hportion hi, hmass, ← Nat.sub_sub]
      exact div_le_afterPortion (by omega)
    · obtain ⟨-, hall⟩ := afterPortions_counts l l.spanRem
      have hempty : (l.afterPortions l.spanRem).massRem = 0 := hdrains.1
      rw [hempty] at hall
      exact hall

/-! ### Portions and shares (R94, R105, R106) -/

/-- The first lot of a key is found, and the change of its key is its change. -/
theorem findLot_split {lots before after : List Lot} {l : Lot} (h : lots = before ++ l :: after)
    (hbefore : ∀ x ∈ before, x.lot ≠ l.lot) :
    findLot l.lot lots = some l ∧ ∀ f, updateLot l.lot f lots = before ++ f l :: after := by
  subst h
  refine ⟨find_of_split rfl (by simp) (by simpa using hbefore), fun f => ?_⟩
  induction before with
  | nil => simp [updateLot]
  | cons x xs ih =>
    have hx : x.lot ≠ l.lot := hbefore x List.mem_cons_self
    simp [updateLot, hx, ih fun y hy => hbefore y (List.mem_cons_of_mem x hy)]

theorem closePeriod_shares (forced : Bool) (s : State) : (closePeriod forced s).ja.shares = [] := by
  unfold closePeriod
  rw [conditionEnds_ja (by decide)]
  rfl

theorem roomForShare_of_room {k : LotKey} {s : State} (h : holdsShare k s.ja.shares = true ∨ s.ja.shares.length < 8) :
    roomForShare k s = s := by
  refine if_neg fun hfull => ?_
  have hparts : holdsShare k s.ja.shares = false ∧ 8 ≤ s.ja.shares.length := by
    simpa [Limits.shares] using hfull
  rcases h with h | h
  · simp [hparts.1] at h
  · omega

/-- With room for its share a lot found gives its portion (R105, R106). -/
theorem givePortion_of_room {k : LotKey} {s : State} {l : Lot} (hroom : roomForShare k s = s)
    (hfound : findLot k s.cl.lots = some l) :
    givePortion k s = { s with
      ja := { s.ja with
        shares :=
          if holdsShare k s.ja.shares then addToShare k l.portion s.ja.shares else s.ja.shares ++ [⟨k, l.portion⟩] }
      cl := { s.cl with
        crushed := s.cl.crushed + BitVec.ofNat 32 l.portion
        lots := updateLot k
          (fun x => if holdsShare k s.ja.shares then x.afterPortion else x.afterPortion.takesShare) s.cl.lots } } := by
  simp only [givePortion, hroom, hfound]
  rfl

/-- Settles O34: a share held or a new one, and the forced close that makes room for a ninth. -/
theorem portionsEnterShares : Obligations.PortionsEnterShares := by
  intro s before after l hlots hbefore portion given moved held
  obtain ⟨hfound, hupdate⟩ := findLot_split hlots hbefore
  have hheld : holdsShare l.lot s.ja.shares = true ↔ held := by simp [holdsShare, held]
  refine ⟨fun h => ?_, fun h hroom => ?_, fun h hfull => ?_⟩
  · have hshare := hheld.2 h
    rw [givePortion_of_room (roomForShare_of_room (.inl hshare)) hfound, hshare, hupdate]
    rfl
  · have hshare : holdsShare l.lot s.ja.shares = false := Bool.eq_false_iff.2 (mt hheld.1 h)
    rw [givePortion_of_room (roomForShare_of_room (.inr hroom)) hfound, hshare, hupdate]
    rfl
  · have hshare : holdsShare l.lot s.ja.shares = false := Bool.eq_false_iff.2 (mt hheld.1 h)
    have hcloses : roomForShare l.lot s = closePeriod true s := if_pos (by simp [hshare, Limits.shares, hfull])
    have hkept : roomForShare l.lot (closePeriod true s) = closePeriod true s :=
      roomForShare_of_room (.inr (by simp [closePeriod_shares]))
    simp only [givePortion, hcloses, hkept]

/-! ### TIP notices (R95 to R103) -/

/-- A new lot stands before the first lot that it is before (R95). -/
theorem insertLot_split (l : Lot) (lots : List Lot) : ∃ before after,
    lots = before ++ after ∧ insertLot l lots = before ++ l :: after ∧
    (∀ x ∈ before, (l.front - x.front).msb = false) ∧
    (∀ x, after.head? = some x → (l.front - x.front).msb = true) := by
  induction lots with
  | nil => exact ⟨[], [], rfl, rfl, nofun, nofun⟩
  | cons y ys ih =>
    by_cases hy : before l.front y.front = true
    · refine ⟨[], y :: ys, rfl, if_pos hy, nofun, fun x hx => ?_⟩
      obtain rfl : y = x := by simpa using hx
      exact hy
    · obtain ⟨xs, zs, rfl, hinsert, hfirst, hnext⟩ := ih
      refine ⟨y :: xs, zs, rfl, ?_, fun x hx => ?_, hnext⟩
      · rw [insertLot, if_neg hy, hinsert]
        rfl
      · rcases List.mem_cons.1 hx with rfl | hx
        · exact Bool.eq_false_iff.2 hy
        · exact hfirst x hx

theorem crushPositions_eq_iterate (k : LotKey) (n : Nat) (s : State) :
    crushPositions k n s = Nat.iterate (givePortion k) n s := by
  induction n generalizing s with
  | zero => rfl
  | succ n ih => exact ih (givePortion k s)

/-- The pending net that a TIP notice of a single-bin consignment takes (R99). -/
def heldNet (n : TipNotice) (nets : List PendingNet) : Option PendingNet :=
  if n.lot.k = 1 ∧ n.lot.m = 1 ∧ n.lot.key.synthetic = false then nets.find? (·.key = n.lot.key) else none

/-- A TIP notice of a new lot places it with its pending net, or the part mass (R99). -/
theorem takeTip_of_new {n : TipNotice} {s : State} (hnew : findLot n.lot s.cl.lots = none) :
    takeTip n s = placeLot n (((heldNet n s.cl.pendingNets).map (·.net)).getD n.mass)
      (heldNet n s.cl.pendingNets).isSome
      { s with cl := { s.cl with pendingNets :=
        if (heldNet n s.cl.pendingNets).isSome then s.cl.pendingNets.filter (·.key ≠ n.lot.key)
        else s.cl.pendingNets } } := by
  have htaken : pendingNetFor n s = (heldNet n s.cl.pendingNets).map (·.net) := by
    unfold pendingNetFor heldNet
    split
    · rfl
    · rfl
  simp only [takeTip, hnew, htaken]
  cases heldNet n s.cl.pendingNets with
  | none => rfl
  | some e => rfl

theorem placeLot_of_full {n : TipNotice} {mass : Nat} {corrected : Bool} {s : State} (h : 32 ≤ s.cl.lots.length) :
    placeLot n mass corrected s = writeOff n mass (newLotFlags n corrected s) s := if_pos h

theorem placeLot_of_onCarrier {n : TipNotice} {mass : Nat} {corrected : Bool} {s : State} {p : Position}
    (hp : s.cc.p = p) (h : s.cl.lots.length < 32) (hlate : (windowFront p n - p).msb = false) :
    placeLot n mass corrected s = enterLot (newLot n mass (newLotFlags n corrected s) p) s := by
  subst hp
  exact (if_neg (Nat.not_le.2 h)).trans (if_neg (Bool.eq_false_iff.1 hlate))

theorem placeLot_of_late {n : TipNotice} {mass : Nat} {corrected : Bool} {s : State} {p : Position}
    (hp : s.cc.p = p) (h : s.cl.lots.length < 32) (hlate : (windowFront p n - p).msb = true) :
    placeLot n mass corrected s =
      (givePortion n.lot)^[latePositions (newLot n mass (newLotFlags n corrected s) p) p]
        (enterLot (newLot n mass { newLotFlags n corrected s with lateEntry := true } p) s) := by
  subst hp
  rw [← crushPositions_eq_iterate]
  exact (if_neg (Nat.not_le.2 h)).trans (if_pos hlate)

/-- Settles O33: the pending net first, then the lot written off, on the carrier, or crushed up to the mouth. -/
theorem tipNoticesEnterLots : Obligations.TipNoticesEnterLots := by
  refine ⟨fun h p s n hworks hpasses hn => ?_, insertLot_split⟩
  intro u
  have hmill : runsAs .mill u = true := by rw [runsAs_iff]; simpa [u, Works] using hworks
  have hexec : exec (.receiveTip h p) s = .next (takeTip n u) := by
    rw [exec_notice (k := 4) (r := .notice (.tip n)) rfl hpasses rfl (by simp [readNotice, sendingRole, hn])]
    simp only [actOn, u, hmill, if_true]
  have hcl : u.cl = s.cl := by simp [u]
  have hp : u.cc.p = s.cc.p := by simp [u]
  rw [hexec]
  refine ⟨fun ⟨l, hl, hsame⟩ => ?_, fun hnew => ?_⟩
  · have hfound : (findLot n.lot u.cl.lots).isSome = true := by
      simpa [findLot, hcl] using ⟨l, hl, hsame⟩
    exact congrArg _ (if_pos hfound)
  · have hnone : findLot n.lot u.cl.lots = none := by simpa [findLot, hcl] using hnew
    rw [takeTip_of_new hnone, hcl]
    exact ⟨fun hfull => congrArg _ (placeLot_of_full hfull),
      fun hroom hlate => congrArg _ (placeLot_of_onCarrier hp hroom hlate),
      fun hroom hlate => congrArg _ (placeLot_of_late hp hroom hlate)⟩

/-! ### NET notices (R109 to R113) -/

theorem takeNetAtMill_of_lot {n : NetNotice} {s : State} {l : Lot} {before after : List Lot}
    (hlots : s.cl.lots = before ++ l :: after) (hsingle : l.lot.key = n.key ∧ l.lot.m = 1)
    (hbefore : ∀ x ∈ before, ¬ (x.lot.key = n.key ∧ x.lot.m = 1)) :
    takeNetAtMill n s = { s with cl := { s.cl with
      corrections := s.cl.corrections + (BitVec.ofNat 32 (l.corrected n.net).massRem - BitVec.ofNat 32 l.massRem)
      lots := before ++ l.corrected n.net :: after } } := by
  have hfind : s.cl.lots.find? (fun l => decide (l.lot.key = n.key) && l.lot.m == 1) = some l := by
    rw [hlots]
    refine find_of_split rfl (by simp [hsingle]) fun x hx => ?_
    simpa using hbefore x hx
  have hfirst : ∀ x ∈ before, x.lot ≠ l.lot := fun x hx hsame => hbefore x hx (hsame ▸ hsingle)
  simp only [takeNetAtMill, hfind, (findLot_split hlots hfirst).2]
  rfl

/-- With no lot of one bin a NET goes to the pending nets, but a lot of several bins ignores it (R112, R113). -/
theorem takeNetAtMill_of_none {n : NetNotice} {s : State} (h : ∀ x ∈ s.cl.lots, ¬ (x.lot.key = n.key ∧ x.lot.m = 1)) :
    takeNetAtMill n s = if s.cl.lots.any (·.lot.key = n.key) then s else enterPendingNet n.key n.net s := by
  have hfind : s.cl.lots.find? (fun l => decide (l.lot.key = n.key) && l.lot.m == 1) = none := by
    simpa using h
  simp only [takeNetAtMill, hfind]

/-- Settles O36: the single-bin lot by its state, then the lots of several bins, then the table of pending nets. -/
theorem netsCorrectLots : Obligations.NetsCorrectLots := by
  intro h p s n hworks hpasses hn u single
  have hmill : runsAs .mill u = true := by rw [runsAs_iff]; simpa [u, Works] using hworks
  have htip : runsAs .tip u = false := runsAs_other ((runsAs_iff ..).1 hmill) (by decide)
  have hexec : exec (.receiveNet h p) s = .next (takeNetAtMill n u) := by
    rw [exec_notice (k := 3) (r := .notice (.net n)) rfl hpasses rfl (by simp [readNotice, sendingRole, hn])]
    exact congrArg Host.Outcome.next ((if_neg (Bool.eq_false_iff.1 htip)).trans (if_pos hmill))
  have hcl : u.cl = s.cl := by simp [u]
  rw [hexec]
  refine ⟨fun before l after hlots hl hbefore => ?_, fun hnone hsome => ?_, fun hnone => ?_⟩
  · rw [takeNetAtMill_of_lot (hcl ▸ hlots) hl hbefore, hcl]
    refine ⟨fun hstate => ?_, fun hstate => ?_, fun hstate => ?_⟩
    · simp only [Lot.corrected, hstate]
    · simp only [Lot.corrected, hstate]
    · have hkept : ({ s.cl with lots := before ++ l :: after } : CrushLine) = u.cl := by rw [← hlots, hcl]
      simp only [Lot.corrected, hstate, BitVec.sub_self, BitVec.add_zero, hkept]
  · rw [takeNetAtMill_of_none (by rw [hcl]; exact hnone), if_pos (by simpa [hcl] using hsome)]
  · have hsingles : ∀ x ∈ u.cl.lots, ¬ (x.lot.key = n.key ∧ x.lot.m = 1) := fun x hx hsame => by
      exact hnone x (hcl ▸ hx) hsame.1
    rw [takeNetAtMill_of_none hsingles, if_neg (by simpa [hcl] using hnone)]
    intro nets heldAs
    refine ⟨fun ⟨e, he, hkey⟩ => ?_, fun hnew hroom => ?_, fun hnew hfull => ?_⟩
    · have hheld : (u.cl.pendingNets.any (·.key = n.key)) = true := by simpa [hcl] using ⟨e, he, hkey⟩
      simp only [enterPendingNet, hheld, if_true]
      rw [hcl]
      rfl
    · have hheld : (u.cl.pendingNets.any (·.key = n.key)) = false := by simpa [hcl] using hnew
      have hlength : ¬ Limits.pendingNets ≤ u.cl.pendingNets.length := by rw [hcl]; exact Nat.not_le.2 hroom
      simp only [enterPendingNet, hheld, if_neg hlength]
      rw [hcl]
      rfl
    · have hheld : (u.cl.pendingNets.any (·.key = n.key)) = false := by simpa [hcl] using hnew
      have hlength : Limits.pendingNets ≤ u.cl.pendingNets.length := by rw [hcl]; exact hfull
      simp only [enterPendingNet, hheld, if_pos hlength]
      rw [hcl]
      rfl

end Sys2Proof.Machine
end

section
/-! PROOFS. The juice attributor: the path of an attribution, flow pulses and the close of a period (R120 to R139). -/

namespace Sys2Proof.Machine

/-! ### The path of an attribution (R128 to R130, R134 to R139) -/

/-- METER-SILENT's observation by the mode and the juice (R135, R136, R169). -/
theorem observeJuice_eq (j : Nat) (r : MonitorRec) :
    observeJuice j r =
      if r.mode = none ∨ r.mode = some .off then r
      else if 0 < j then
        if r.mode = some .latched then { r with condition := false, count := 0 }
        else { r with condition := false, count := 0, active := false, latched := false }
      else if r.active = true ∨ min (r.count + 1) r.qual < r.qual then
        { r with condition := true, count := min (r.count + 1) r.qual }
      else { r with
        condition := true, count := min (r.count + 1) r.qual, active := true, latched := r.mode == some .latched } := by
  unfold observeJuice MonitorRec.observes MonitorRec.counted
  by_cases hoff : r.mode = none ∨ r.mode = some .off
  · rw [if_pos hoff, if_neg (by rcases hoff with h | h <;> simp [h])]
  rw [if_neg hoff, if_pos (by simpa using hoff)]
  rcases Nat.eq_zero_or_pos j with rfl | hj
  · rw [if_pos rfl, if_neg (Nat.lt_irrefl 0)]
    by_cases hkept : r.active = true ∨ min (r.count + 1) r.qual < r.qual
    · rw [if_pos hkept]
      refine if_neg fun ⟨hqual, hactive⟩ => ?_
      rcases hkept with h | h
      · simp_all
      · exact absurd hqual (by simpa using h)
    · rw [if_neg hkept]
      refine if_pos ?_
      simpa [not_or, and_comm] using hkept
  · rw [if_neg hj.ne', if_pos hj]
    rcases hmode : r.mode with _ | m
    · exact absurd (.inl hmode) hoff
    · cases m with
      | off => exact absurd (.inr hmode) hoff
      | warn => simp
      | latched => simp
      | recover => simp

/-- With cane METER-SILENT's record is set first, and its effect and the policy choose the path (R129). -/
theorem attributeCane_eq (j : Nat) (shares : List Share) (s : State) :
    attributeCane j shares s =
      if (observeJuice j (mon s .meterSilent)).effective then
        match (millCfg s).policy with
        | .creditZero => unallocate j (setMon .meterSilent (observeJuice j (mon s .meterSilent)) s)
        | .estimate => creditEstimated j shares (setMon .meterSilent (observeJuice j (mon s .meterSilent)) s)
      else creditMeasured j shares (setMon .meterSilent (observeJuice j (mon s .meterSilent)) s) := by
  simp only [attributeCane, mon_setMon] <;> rfl

/-- No path of an attribution touches the ring. -/
theorem attributeCane_ring (j : Nat) (shares : List Share) (s : State) :
    (attributeCane j shares s).ja.ring = s.ja.ring := by
  rw [attributeCane_eq]
  split
  · split
    · rfl
    · rfl
  · rfl

/-- The path of the juice of a breakdown: no cane, or what METER-SILENT leaves (R128, R129). -/
def juicePath (j : Nat) (shares : List Share) (s : State) : State :=
  if shareSum shares = 0 then unallocate j s else attributeCane j shares s

theorem juicePath_ring (j : Nat) (shares : List Share) (s : State) : (juicePath j shares s).ja.ring = s.ja.ring := by
  unfold juicePath
  split
  · rfl
  · exact attributeCane_ring ..

/-- The breakdown found is marked after its path, and its lots count down when it holds shares (R128, R130). -/
theorem attribution_of_found {j : Nat} {number : BitVec 32} {s path : State} {b : Breakdown}
    (hfind : findBreakdown number s.ja.ring = some b) (hpath : juicePath j b.shares s = path) :
    attribution j number s =
      if b.shares = [] then { path with ja := { path.ja with ring := markAttributed number s.ja.ring } }
      else releaseLots { path with
        ja := { path.ja with ring := markAttributed number s.ja.ring }
        cl := { path.cl with lots := countDown b.shares path.cl.lots } } := by
  have hring := juicePath_ring j b.shares s
  subst hpath
  simp only [attribution, hfind]
  rw [← hring]
  rfl

theorem findBreakdown_split {ring before after : List Breakdown} {b : Breakdown} {n : BitVec 32}
    (h : ring = before ++ b :: after) (hb : b.number = n) (hbefore : ∀ x ∈ before, x.number ≠ n) :
    findBreakdown n ring = some b :=
  find_of_split h (by simpa using hb) (by simpa using hbefore)

/-- Settles O39: METER-SILENT's record by cases, then the breakdown of the number, or none. -/
theorem attributionTakesItsPath : Obligations.AttributionTakesItsPath := by
  refine ⟨observeJuice_eq, fun j number s => ⟨fun hnone => ?_, fun before b after hring hb hbefore => ?_⟩⟩
  · have hfind : findBreakdown number s.ja.ring = none := by simpa [findBreakdown] using hnone
    simp only [attribution, hfind]
    rfl
  · intro c silent u estimate credited path marked counted gone rest
    refine attribution_of_found (findBreakdown_split hring hb hbefore) ?_
    unfold juicePath
    rw [attributeCane_eq]
    rfl

/-! ### Flow pulses and the close of a period (R120 to R127, R131) -/

theorem mon_conditionEnds_of_ne {i j : MonitorId} (h : j ≠ i) (s : State) :
    mon (conditionEnds i s) j = mon s j := by
  unfold conditionEnds finish
  split
  · rw [mon_emit, mon_setInactive_of_ne h, mon_setMon_of_ne h]
  · exact mon_setMon_of_ne h ..

/-- A notice offered may end LINE-CONGESTION, and touches no other monitor (R9, R10). -/
theorem mon_offer_of_ne {j : MonitorId} (h : j ≠ .lineCongestion) (n : Notice) (ages : Option AgePair) (s : State) :
    mon (offer n ages s) j = mon s j := by
  have hhead (t : State) : mon (takeQueueHead t) j = mon t j := by
    unfold takeQueueHead
    split
    · rfl
    · rfl
  unfold offer
  split
  · rw [hhead, abandonWaitingBeacon]
    split
    · exact mon_conditionEnds_of_ne h _
    · rfl
  · rw [mon_emit]
    rfl

theorem mon_releaseLots_of_ne {j : MonitorId} (h : j ≠ .lineCongestion) (s : State) :
    mon (releaseLots s) j = mon s j := by
  unfold releaseLots
  rw [foldl_view (mon · j) _ fun t l => mon_offer_of_ne h _ none t]
  rfl

/-- No path of an attribution opens a period or touches a monitor but METER-SILENT. -/
theorem juicePath_keeps (j : Nat) (shares : List Share) (s : State) :
    (juicePath j shares s).ja.k = s.ja.k ∧ mon (juicePath j shares s) .carrierStall = mon s .carrierStall := by
  have hother (r : MonitorRec) : mon (setMon .meterSilent r s) .carrierStall = mon s .carrierStall :=
    mon_setMon_of_ne (by decide) ..
  unfold juicePath
  split
  · exact ⟨rfl, rfl⟩
  rw [attributeCane_eq]
  split
  · split
    · exact ⟨rfl, hother _⟩
    · exact ⟨rfl, hother _⟩
  · exact ⟨rfl, hother _⟩

theorem attribution_keeps (j : Nat) (number : BitVec 32) (s : State) :
    (attribution j number s).ja.k = s.ja.k ∧
    mon (attribution j number s) .carrierStall = mon s .carrierStall := by
  rcases hfind : findBreakdown number s.ja.ring with _ | b
  · simp only [attribution, hfind]
    exact ⟨rfl, rfl⟩
  · obtain ⟨hk, hmon⟩ := juicePath_keeps j b.shares s
    rw [attribution_of_found hfind rfl]
    split
    · exact ⟨hk, hmon⟩
    · rw [(releaseLots_frame _).2.2.2.2.2.1, mon_releaseLots_of_ne (by decide)]
      exact ⟨hk, hmon⟩

/-- A close whole, over the period that it closes (R126 to R131). -/
theorem closePeriod_eq (forced : Bool) (s : State) (u : State)
    (hu : reportMeterSilent (mon s .meterSilent).active
      (attribution (settledGrams s / 1000) (s.ja.k - BitVec.ofNat 32 (millCfg s).lag) (settlePeriod forced s)) = u) :
    closePeriod forced s = conditionEnds .meterOverrange { u with ja := { u.ja with
      isOpen := true, k := s.ja.k + 1, shares := [], pulses := 0, runningMs := 0, pausedMs := 0
      isPaused := (mon s .carrierStall).effective } } := by
  have hattributed := attribution_keeps (settledGrams s / 1000) (s.ja.k - BitVec.ofNat 32 (millCfg s).lag)
    (settlePeriod forced s)
  have hk : u.ja.k = s.ja.k := by
    simp only [← hu, reportMeterSilent_frame, hattributed]
    rfl
  have hmon : mon u .carrierStall = mon s .carrierStall := by
    rw [← hu, mon_eq _ (reportMeterSilent_frame _ _).2.2.2.2.2.2.2.2.2.1, hattributed.2]
    rfl
  rw [← hk, ← hmon, ← hu]
  rfl

/-- Settles O40: the pulse by the count, and one close for the timer, the pause limit and the forced close. -/
theorem periodsCountAndClose : Obligations.PeriodsCountAndClose := by
  intro s hworks hopen grams closed settled attributed reported opened fallen
  have hruns : juiceRuns s = true := by simp [juiceRuns, (runsAs_iff ..).2 hworks, hopen]
  have hcloses (forced : Bool) : closePeriod forced s = opened forced := closePeriod_eq forced s _ rfl
  refine ⟨fun hroom => ?_, fun hfull => ?_, fun hrunning => ?_, fun hpaused => ?_, hcloses true⟩
  · exact (if_pos hruns).trans (if_pos hroom)
  · exact (if_pos hruns).trans (if_neg (Nat.not_lt.2 hfull))
  · exact (if_pos ⟨hruns, hrunning⟩).trans (congrArg _ (hcloses false))
  · exact (if_pos ⟨hruns, hpaused⟩).trans (congrArg _ (hcloses false))

end Sys2Proof.Machine
end

section
/-! PROOFS. The laboratory: notices and analyses by key, the ready list and the store, the timers and the day end (R146 to R165). -/

namespace Sys2Proof.Machine

/-! ### What a command reaches -/

/-- The blocks of the units: weighbridge, tippler, crush line, juice attributor and record assembler. -/
inductive UnitBlock
  | weigh | tip | crush | juice | lab
  deriving DecidableEq

/-- The units that a command can change, a reset, an entry to RUN and a frame aside, which can change every one. -/
def unitsReached : Instr → Option (List UnitBlock)
  | .clear _ | .speedSaturation | .stallQuietInterval | .runContactRelease | .startAllowanceExpiry | .flowPulse => some [.juice]
  | .vehicle _ | .weight _ | .openEntryExpiry _ => some [.weigh]
  | .assign _ | .disarm _ | .awaitingEntryExpiry _ | .tippingActive | .minTipTimeExpiry | .tippingRelease => some [.tip]
  | .analysis _ | .read _ | .release _ | .completionTimerExpiry _ | .notCrushedAgeExpiry _ | .summaryWaitExpiry => some [.lab]
  | .dayEnd _ => some [.weigh, .lab]
  | .stepPulse _ => some [.tip, .crush, .juice]
  | .periodTimerExpiry | .pauseLimitExpiry => some [.crush, .juice]
  | .configure _ | .restart _ => none
  | c => if isReset c || (asFrame c).isSome then none else some []

/-- What a command cannot reach it leaves unchanged. -/
theorem exec_units_frame {c : Instr} {s t : State} {l : List UnitBlock} (hc : unitsReached c = some l)
    (h : exec c s = .next t) :
    (.weigh ∉ l → t.wu = s.wu) ∧ (.tip ∉ l → t.tu = s.tu) ∧ (.crush ∉ l → t.cl = s.cl) ∧ (.juice ∉ l → t.ja = s.ja) ∧
      (.lab ∉ l → t.ra = s.ra) := by
  cases c with
  | powerUpEnd => simp [execPowerUpEnd_frame h]
  | lineQuiet => simp [execLineQuiet_frame h]
  | attemptStart => simp [execAttemptStart_frame h]
  | attemptComplete => simp [execAttemptComplete_frame h]
  | collision => simp [execCollision_frame h]
  | collisionMarkEnd => simp [execCollisionMarkEnd_frame h]
  | backoffEnd => simp [execBackoffEnd_frame h]
  | frameError => simp [execFrameError_frame h]
  | startedBeaconDue => simp [execStartedBeaconDue_frame h]
  | regularBeaconDue => simp [execRegularBeaconDue_frame h]
  | peerSilenceExpiry => simp [execPeerSilenceExpiry_frame h]
  | peerAbsenceTimeout => simp [execPeerAbsenceTimeout_frame h]
  | recordGapTimeout => simp [execRecordGapTimeout_frame h]
  | recordDiscard => simp [execRecordDiscard_frame h]
  | recordChecksumError => simp [execRecordChecksumError_frame h]
  | recordUnknownKind => simp [execRecordUnknownKind_frame h]
  | statusRequest => simp [execStatusRequest_frame h]
  | clearFresh => simp [execClearFresh_frame h]
  | withdraw => simp [execWithdraw_frame h]
  | outboundItemSent => simp [execOutboundItemSent_frame h]
  | runContactActive => simp [execRunContactActive_frame h]
  | lineActive => simp [execLineActive_frame h]
  | clear => cases hc; simp [execClear_frame h]
  | speedSaturation => cases hc; simp [execSpeedSaturation_frame h]
  | stallQuietInterval => cases hc; simp [execStallQuietInterval_frame h]
  | runContactRelease => cases hc; simp [execRunContactRelease_frame h]
  | startAllowanceExpiry => cases hc; simp [execStartAllowanceExpiry_frame h]
  | flowPulse => cases hc; simp [execFlowPulse_frame h]
  | vehicle => cases hc; simp [execVehicle_frame h]
  | weight => cases hc; simp [execWeight_frame h]
  | openEntryExpiry => cases hc; simp [execOpenEntryExpiry_frame h]
  | assign => cases hc; simp [execAssign_frame h]
  | disarm => cases hc; simp [execDisarm_frame h]
  | awaitingEntryExpiry => cases hc; simp [execAwaitingEntryExpiry_frame h]
  | tippingActive => cases hc; simp [execTippingActive_frame h]
  | minTipTimeExpiry => cases hc; simp [execMinTipTimeExpiry_frame h]
  | tippingRelease => cases hc; simp [execTippingRelease_frame h]
  | analysis => cases hc; simp [execAnalysis_frame h]
  | read => cases hc; simp [execRead_frame h]
  | release => cases hc; simp [execRelease_frame h]
  | completionTimerExpiry => cases hc; simp [execCompletionTimerExpiry_frame h]
  | notCrushedAgeExpiry => cases hc; simp [execNotCrushedAgeExpiry_frame h]
  | summaryWaitExpiry => cases hc; simp [execSummaryWaitExpiry_frame h]
  | dayEnd => cases hc; simp [execDayEnd_frame h]
  | stepPulse => cases hc; simp [execStepPulse_frame h]
  | periodTimerExpiry => cases hc; simp [execPeriodTimerExpiry_frame h]
  | pauseLimitExpiry => cases hc; simp [execPauseLimitExpiry_frame h]
  | _ => simp [unitsReached, isReset, asFrame] at hc

/-- What can change every unit: a reset, a frame, or a record that can enter RUN. -/
theorem unitsReached_none {c : Instr} (hc : unitsReached c = none) :
    isReset c = true ∨ (∃ h k p, asFrame c = some (h, k, p)) ∨
      ∃ k p, asRecord c = some (k, p) ∧ (k = .configure ∨ k = .restart) := by
  cases c with
  | configure p => exact .inr (.inr ⟨_, p, rfl, .inl rfl⟩)
  | restart p => exact .inr (.inr ⟨_, p, rfl, .inr rfl⟩)
  | _ => simp [unitsReached, isReset, asFrame] at hc ⊢

/-- What reaches the laboratory: four records and three timers. -/
theorem unitsReached_lab {c : Instr} {l : List UnitBlock} (hc : unitsReached c = some l) (hl : .lab ∈ l) :
    (∃ k p, asRecord c = some (k, p) ∧ (k = .analysis ∨ k = .dayEnd ∨ k = .read ∨ k = .release)) ∨
      (∃ key, c = .completionTimerExpiry key) ∨ (∃ key, c = .notCrushedAgeExpiry key) ∨ c = .summaryWaitExpiry := by
  cases c <;> cases hc <;> simp [asRecord] at hl ⊢

/-! ### The ready list and the record store (R159, R160) -/

/-- The laboratory with one more item in the store, whose entry has left the table (R159). -/
def RecordAssembler.stored (ra : RecordAssembler) (c : Closed) : RecordAssembler :=
  { ra with store := ra.store ++ [c], table := ra.table.filter fun e => closedKey c != some e.key }

theorem enterStore_eq (c : Closed) (s : State) : enterStore c s =
    if s.ra.store.length + 1 = 256 then conditionStarts .storeFull { s with ra := s.ra.stored c }
    else { s with ra := s.ra.stored c } := by
  have hstored : ({ s with ra := s.ra.stored c } : State) = s.setRa { s.ra with
      store := s.ra.store ++ [c]
      table := match closedKey c with
        | some k => s.ra.table.filter (·.key ≠ k)
        | none => s.ra.table } := by
    refine congrArg (fun t => s.setRa { s.ra with store := s.ra.store ++ [c], table := t }) ?_
    cases closedKey c with
    | none => simp
    | some k =>
      refine List.filter_congr fun e _ => ?_
      rw [Bool.eq_iff_iff]
      simpa using ne_comm
  have hlength : ({ s with ra := s.ra.stored c } : State).ra.store.length = s.ra.store.length + 1 := by
    simp [RecordAssembler.stored]
  rw [← hlength, hstored]
  rfl

theorem enterStore_ra (c : Closed) (s : State) : (enterStore c s).ra = s.ra.stored c := by
  rw [enterStore_eq]
  split
  · simp
  · rfl

/-- The items that find room enter in order, and the others wait (R159). -/
theorem enterWhileRoom_ra (l : List Closed) (s : State) :
    (enterWhileRoom l s).ra = { s.ra with
      store := s.ra.store ++ l.take (256 - s.ra.store.length)
      ready := l.drop (256 - s.ra.store.length)
      table := s.ra.table.filter fun e => !(l.take (256 - s.ra.store.length)).any fun x => closedKey x == some e.key } := by
  induction l generalizing s with
  | nil => simp [enterWhileRoom]
  | cons c l ih =>
    unfold enterWhileRoom
    split
    next hroom =>
      have hroom : s.ra.store.length < 256 := hroom
      obtain ⟨n, hn⟩ : ∃ n, 256 - s.ra.store.length = n + 1 := ⟨255 - s.ra.store.length, by omega⟩
      have hrest : 256 - (s.ra.store.length + 1) = n := by omega
      rw [ih, enterStore_ra, RecordAssembler.stored]
      simp only [hn, hrest, List.length_append, List.length_singleton, List.append_assoc, List.singleton_append,
        List.take_succ_cons, List.drop_succ_cons, List.filter_filter, List.any_cons, Bool.not_or]
      simp [Bool.and_comm, bne]
    next hfull =>
      have hfull : 256 - s.ra.store.length = 0 := Nat.sub_eq_zero_of_le (Nat.not_lt.1 hfull)
      simp [hfull]

/-- STORE-FULL starts with the record that brings the store to 256, and only then (R160). -/
theorem enterWhileRoom_alarm (l : List Closed) (s : State) :
    (s.ra.store.length < 256 → 256 ≤ s.ra.store.length + l.length →
      (enterWhileRoom l s).mu = (conditionStarts .storeFull s).mu ∧
      (enterWhileRoom l s).fp = (conditionStarts .storeFull s).fp) ∧
    (256 ≤ s.ra.store.length ∨ s.ra.store.length + l.length < 256 →
      (enterWhileRoom l s).mu = s.mu ∧ (enterWhileRoom l s).fp = s.fp) := by
  induction l generalizing s with
  | nil => exact ⟨fun hroom hfills => absurd hfills (by simpa using hroom), fun _ => ⟨rfl, rfl⟩⟩
  | cons c l ih =>
    obtain ⟨hstarts, hquiet⟩ := ih (enterStore c s)
    have hlength : (enterStore c s).ra.store.length = s.ra.store.length + 1 := by
      simp [enterStore_ra, RecordAssembler.stored]
    simp only [hlength] at hstarts hquiet
    have hreads := conditionStarts_reads (s := { s with ra := s.ra.stored c }) (t := s) .storeFull rfl rfl
    unfold enterWhileRoom
    refine ⟨fun hroom hfills => ?_, fun h => ?_⟩
    · rw [if_pos hroom]
      by_cases hlast : s.ra.store.length + 1 = 256
      · obtain ⟨hmu, hfp⟩ := hquiet (by omega)
        rw [hmu, hfp, enterStore_eq, if_pos hlast]
        exact hreads
      · obtain ⟨hmu, hfp⟩ := hstarts (by omega) (by simp at hfills; omega)
        rw [hmu, hfp, enterStore_eq, if_neg hlast]
        exact hreads
    · split
      next hroom =>
        have hroom : s.ra.store.length < 256 := hroom
        have hshort : s.ra.store.length + (l.length + 1) < 256 := h.resolve_left (by omega)
        obtain ⟨hmu, hfp⟩ := hquiet (.inr (by omega))
        rw [hmu, hfp, enterStore_eq, if_neg (by omega)]
        exact ⟨rfl, rfl⟩
      · exact ⟨rfl, rfl⟩

/-- Settles O43: the ready list with the new item at its tail, moved. -/
theorem readyItemsEnterTheStore : Obligations.ReadyItemsEnterTheStore := by
  intro c s free queued entering t
  have hra := enterWhileRoom_ra queued (s.setRa { s.ra with ready := queued })
  obtain ⟨hstarts, hquiet⟩ := enterWhileRoom_alarm queued (s.setRa { s.ra with ready := queued })
  have hreads := conditionStarts_reads (s := s.setRa { s.ra with ready := queued }) (t := s) .storeFull rfl rfl
  have ht : t.ra = _ := hra
  refine ⟨by rw [ht]; rfl, by rw [ht]; rfl, by rw [ht]; rfl, by rw [ht]; rfl, by rw [ht]; rfl, by rw [ht]; rfl,
    fun hroom hfills => ?_, fun h => hquiet h, ?_⟩
  · obtain ⟨hmu, hfp⟩ := hstarts hroom hfills
    exact ⟨hmu.trans hreads.1, hfp.trans hreads.2⟩
  · simp [t]

/-! ### The timers and the DAY-SUMMARY (R152, R153, R165) -/

/-- Settles O44: each timer by the entry found, and the end of the wait. -/
theorem labTimersCloseAndEndTheWait : Obligations.LabTimersCloseAndEndTheWait := by
  intro s hworks
  have hlab : runsAs .lab s = true := (runsAs_iff ..).2 hworks
  refine ⟨fun key e hentry hopen => ⟨fun htimer => ?_, fun hparts => ?_, fun hparts => ?_⟩, fun w hw => ?_,
    fun h p n hpasses hn => ?_⟩
  · have hfind : findAsm key s = some e := hentry
    simp only [exec, execCompletionTimerExpiry, hlab, hfind, if_true]
    exact if_pos ⟨hopen, htimer⟩
  · have hfind : findAsm key s = some e := hentry
    simp only [exec, execNotCrushedAgeExpiry, hlab, hfind, if_true]
    exact if_pos ⟨hopen, hparts⟩
  · have hfind : findAsm key s = some e := hentry
    simp only [exec, execNotCrushedAgeExpiry, hlab, hfind, if_true]
    exact if_neg fun h => hparts h.2
  · simp only [exec, execSummaryWaitExpiry, hlab, hw, if_true]
    rfl
  · intro u
    have hu : runsAs .lab u = true := by rw [runsAs_iff]; simpa [u, Works] using hworks
    have hra : u.ra = s.ra := by simp [u]
    have hexec : exec (.receiveDaySummary h p) s = .next (takeDaySummary n u) := by
      rw [exec_notice (k := 7) (r := .notice (.daySummary n)) rfl hpasses rfl (by simp [readNotice, sendingRole, hn])]
      exact congrArg _ (if_pos hu)
    rw [hexec]
    refine ⟨fun hother => ?_, fun w hw hday => ?_⟩
    · rcases hw : s.ra.wait with _ | w
      · simp only [takeDaySummary, hra, hw]
      · simp only [takeDaySummary, hra, hw, if_neg (hother w hw)]
    · simp only [takeDaySummary, hra, hw, if_pos hday, endWait]
      rfl

/-! ### Notices by key (R146 to R149) -/

theorem keyStored_iff (k : Key) (s : State) : keyStored k s = true ↔ ∃ r, .cons r ∈ s.ra.store ∧ r.key = k := by
  simp only [keyStored, List.any_eq_true, beq_iff_eq]
  constructor
  · rintro ⟨c, hc, hkey⟩
    cases c with
    | cons r => exact ⟨r, hc, by simpa [closedKey] using hkey⟩
    | day r => simp [closedKey] at hkey
  · rintro ⟨r, hr, rfl⟩
    exact ⟨.cons r, hr, rfl⟩

/-- A notice by its key (R146): late, taken by its OPEN entry or turned away, or by a new entry, or with no room. -/
theorem labApply_by_key {k : Key} {f : EntryChange} {turnedAway : AsmEntry → Prop} {taken : AsmEntry → AsmEntry}
    (haway : ∀ e, turnedAway e → f e = none) (htaken : ∀ e, ¬ turnedAway e → f e = some (taken e))
    (hblank : ¬ turnedAway (newEntry k)) {s u : State} (hra : u.ra = s.ra) :
    ((∃ r, .cons r ∈ s.ra.store ∧ r.key = k) → labApply k f u = countMalformed u) ∧
    (∀ e, ¬ (∃ r, .cons r ∈ s.ra.store ∧ r.key = k) → s.ra.table.find? (·.key = k) = some e →
      (e.closed ≠ none ∨ turnedAway e → labApply k f u = countMalformed u) ∧
      (e.closed = none → ¬ turnedAway e → labApply k f u = applied (taken e) u)) ∧
    (¬ (∃ r, .cons r ∈ s.ra.store ∧ r.key = k) → (∀ e ∈ s.ra.table, e.key ≠ k) →
      (48 ≤ s.ra.table.length → labApply k f u = countMalformed u) ∧
      (s.ra.table.length < 48 → labApply k f u =
        applied (taken (newEntry k)) { u with ra := { s.ra with table := s.ra.table ++ [newEntry k] } })) := by
  have hstored := keyStored_iff k u
  rw [hra] at hstored
  refine ⟨fun h => if_pos (hstored.2 h), fun e h hentry => ?_, fun h hnew => ?_⟩
  · have hfind : findAsm k u = some e := by rw [findAsm, hra, hentry]
    have hlate : labApply k f u = if e.closed.isSome then countMalformed u else applyTo f e u := by
      simp only [labApply, if_neg (mt hstored.1 h), hfind]
    refine ⟨fun haside => ?_, fun hopen hstays => ?_⟩
    · rw [hlate]
      split
      · rfl
      next hopen =>
        have hturned : turnedAway e := haside.resolve_left (by simpa using hopen)
        simp only [applyTo, haway e hturned]
    · rw [hlate, if_neg (by simp [hopen])]
      simp only [applyTo, htaken e hstays]
  · have hfind : findAsm k u = none := by simpa [findAsm, hra] using hnew
    simp only [labApply, if_neg (mt hstored.1 h), hfind, applyTo, htaken _ hblank, setTable]
    rw [hra]
    exact ⟨fun hfull => if_neg (Nat.not_lt.2 hfull), fun hroom => if_pos hroom⟩

theorem turnsPartAway_iff (n : LotCrushedNotice) (e : AsmEntry) :
    (e.m.any (· ≠ n.lot.m) || e.parts.contains n.lot.k) = true ↔
      (∃ m, e.m = some m ∧ m ≠ n.lot.m) ∨ n.lot.k ∈ e.parts := by
  simp [Option.any_eq_true]

/-- Settles O41: the three notices change an entry by their own rule, and each by its key. -/
theorem labTakesNoticesByKey : Obligations.LabTakesNoticesByKey := by
  intro s h p hworks group decided
  have hgroup (plate : Plate) (grower gross : Nat) (e : AsmEntry) :
      group plate grower gross e = e.gross.or (some ⟨plate, grower, gross⟩) := by
    cases he : e.gross <;> simp [group, he]
  have hdecided {c : Instr} {sender : Role} {kind : Nat} {key : Key} {f : EntryChange} {turnedAway : AsmEntry → Prop}
      {taken : AsmEntry → AsmEntry} (hexec : exec c s = .next (labApply key f (heard sender h kind p s)))
      (haway : ∀ e, turnedAway e → f e = none) (htaken : ∀ e, ¬ turnedAway e → f e = some (taken e))
      (hblank : ¬ turnedAway (newEntry key)) : decided c sender kind key turnedAway taken := by
    unfold decided
    intro u stored blank counted
    obtain ⟨hlate, hheld, hnew⟩ := labApply_by_key (s := s) (u := u) haway htaken hblank (by simp [u])
    simp only [counted, hexec]
    refine ⟨fun h => congrArg _ (hlate h), fun e h he => ?_, fun h he => ?_⟩
    · exact ⟨fun ha => congrArg _ ((hheld e h he).1 ha), fun ho ht => congrArg _ ((hheld e h he).2 ho ht)⟩
    · exact ⟨fun hf => congrArg _ ((hnew h he).1 hf), fun hr => congrArg _ ((hnew h he).2 hr)⟩
  have hu {sender : Role} {kind : Nat} : Works .lab (heard sender h kind p s) := by simpa [Works] using hworks
  have hlab {sender : Role} {kind : Nat} : runsAs .lab (heard sender h kind p s) = true := (runsAs_iff ..).2 hu
  refine ⟨fun n hpasses hn => ?_, fun n hpasses hn => ?_, fun n hpasses hn => ?_⟩
  · refine hdecided (f := fun e => some (withGross n e)) ?_ (fun e h => h.elim) (fun e _ => ?_) not_false
    · rw [exec_notice (k := 2) (r := .notice (.gross n)) rfl hpasses rfl (by simp [readNotice, sendingRole, hn])]
      refine congrArg _ (((if_neg ?_).trans (if_neg ?_)).trans (if_pos hlab))
      · simp [runsAs_other hu]
      · simp [runsAs_other hu]
    · simp only [withGross, hgroup]
  · refine hdecided (f := withNet n) ?_ (fun e h => ?_) (fun e h => ?_) (by simp [newEntry])
    · rw [exec_notice (k := 3) (r := .notice (.net n)) rfl hpasses rfl (by simp [readNotice, sendingRole, hn])]
      refine congrArg _ (((if_neg ?_).trans (if_neg ?_)).trans (if_pos hlab))
      · simp [runsAs_other hu]
      · simp [runsAs_other hu]
    · exact if_pos (Option.isSome_iff_ne_none.2 h)
    · rw [withNet, if_neg (by simpa using h), hgroup]
  · refine hdecided (f := withPart n) ?_ (fun e h => ?_) (fun e h => ?_) (by simp [newEntry])
    · rw [exec_notice (k := 5) (r := .notice (.lotCrushed n)) rfl hpasses rfl (by simp [readNotice, sendingRole, hn])]
      exact congrArg _ (if_pos hlab)
    · exact if_pos ((turnsPartAway_iff n e).2 h)
    · rw [withPart, if_neg (mt (turnsPartAway_iff n e).1 h)]
      cases hm : e.m <;> simp

/-! ### ANALYSIS, READ, RELEASE and DAY-END (R150, R151, R161 to R164) -/

theorem analysisKey_eq (p : List Byte) : analysisKey p = readKey p 0 (field p 4 1 % 2 == 1) := by
  simp [analysisKey, bitOf]

/-- A record that the role serves, in a length it has, comes to its own rule in RUN (R184). -/
theorem exec_record_of_works {c : Instr} {r : Role} {s : State} (k : RecordKind) (p : List Byte) (hworks : Works r s)
    (hport : PortTakes s) (hc : asRecord c = some (k, p)) (hserved : servedBy k (some r) = true)
    (hlength : lengthOk k (some r) p.length = true) (hk : k ≠ .configure) :
    exec c s = .next (ownRule k p (hunting s)) := by
  obtain ⟨hrun, hrole⟩ := hworks
  exact exec_record hc hport (refusal_none_of_run hrun (hrole ▸ hserved) (hrole ▸ hlength) hk)

/-- Settles O45: the refusals in their order, and the entry of the key or a new one. -/
theorem analysesJoinTheirEntry : Obligations.AnalysesJoinTheirEntry := by
  intro p s hworks hport hlength key a inRange entry isLate taken
  have hkey : analysisKey p = key := analysisKey_eq p
  have hrange : analysisInRange p = true ↔ inRange := by
    rw [analysisInRange, hkey]
    simp only [Bool.and_eq_true, Bool.or_eq_true, decide_eq_true_eq, bne_iff_ne, and_assoc]
    rfl
  have hfind : findAsm key (hunting s) = entry := rfl
  have hlate : keyLate key (hunting s) = true ↔ isLate := by
    simp only [keyLate, keyReady, Bool.or_eq_true, keyStored_iff, hfind, isLate, Option.any_eq_true,
      Option.isSome_iff_ne_none]
    rfl
  have hexec : exec (.analysis p) s = .next (ownAnalysis p (hunting s)) :=
    exec_record_of_works .analysis p hworks hport rfl rfl (by simp [lengthOk, hlength]) (by decide)
  have hjoins (hr : inRange) (hl : ¬ isLate) (hroom : ¬ (entry = none ∧ 48 ≤ s.ra.table.length)) :
      ownAnalysis p (hunting s) = taken (entry.getD (newEntry key)) := by
    rw [ownAnalysis, hkey]
    refine (if_neg (by simpa using hrange.2 hr)).trans ((if_neg (mt hlate.1 hl)).trans ((if_neg ?_).trans rfl))
    rwa [hfind, Option.isNone_iff_eq_none]
  rw [hexec]
  refine ⟨fun hr => congrArg _ (if_pos (by simpa using mt hrange.1 hr)), fun hr hl => ?_, fun hr hl hnew hfull => ?_,
    fun e hr hl he => ?_, fun hr hl hnew hroom => ?_⟩
  · rw [ownAnalysis, hkey]
    exact congrArg _ ((if_neg (by simpa using hrange.2 hr)).trans (if_pos (hlate.2 hl)))
  · rw [ownAnalysis, hkey]
    refine congrArg _ ((if_neg (by simpa using hrange.2 hr)).trans ((if_neg (mt hlate.1 hl)).trans (if_pos ?_)))
    rw [hfind, Option.isNone_iff_eq_none]
    exact ⟨hnew, hfull⟩
  · rw [hjoins hr hl (by simp [he]), he]
    rfl
  · rw [hjoins hr hl (by omega), hnew]
    rfl

/-- Settles O47: the oldest unread record, and the store without the records freed. -/
theorem storedRecordsAreReadAndReleased : Obligations.StoredRecordsAreReadAndReleased := by
  intro p s hworks hport
  refine ⟨fun hlength => ?_, fun hlength => ?_⟩
  · have hexec : exec (.read p) s = .next (ownRead (hunting s)) :=
      exec_record_of_works .read p hworks hport rfl rfl (by simp [lengthOk, hlength]) (by decide)
    rw [hexec]
    refine ⟨fun hall => ?_, fun c hc => ⟨fun hfull => ?_, fun hroom => ?_⟩⟩
    · have hnone : (hunting s).ra.store[(hunting s).ra.readCount]? = none := List.getElem?_eq_none hall
      simp only [ownRead, hnone]
      rfl
    · have hsome : (hunting s).ra.store[(hunting s).ra.readCount]? = some c := hc
      simp only [ownRead, hsome]
      exact congrArg _ (if_pos hfull)
    · have hsome : (hunting s).ra.store[(hunting s).ra.readCount]? = some c := hc
      have hfree : ¬ Limits.eventPlaces ≤ (hunting s).fp.out.length := Nat.not_le.2 hroom
      simp only [ownRead, hsome, if_neg hfree]
      rw [List.append_cons]
      cases c with
      | cons r => rfl
      | day r => rfl
  · intro n freed
    have hexec : exec (.release p) s = .next (ownRelease p (hunting s)) :=
      exec_record_of_works .release p hworks hport rfl rfl (by simp [lengthOk, hlength]) (by decide)
    rw [hexec]
    exact ⟨fun hmore => congrArg _ (if_pos hmore), fun hread => congrArg _ (if_neg (Nat.not_lt.2 hread))⟩

theorem dayRecordWaits_iff (s : State) : dayRecordWaits s = true ↔ ∃ r, .day r ∈ s.ra.ready := by
  simp only [dayRecordWaits, List.any_eq_true, beq_iff_eq]
  constructor
  · rintro ⟨c, hc, hkey⟩
    cases c with
    | cons r => simp [closedKey] at hkey
    | day r => exact ⟨r, hc⟩
  · rintro ⟨r, hr⟩
    exact ⟨.day r, hr, rfl⟩

/-- A DAY-END taken away from ENTRY: the next day differs from the day held, so it is adopted with its event (R164). -/
theorem takeDayEndRecord_eq {s u : State} (hrole : s.part.role ≠ some .entry)
    (hu : offer (.dayEnd ⟨s.part.day, nextDay s.part.day⟩) none s = u) :
    takeDayEndRecord s = { u with
      part := { s.part with day := nextDay s.part.day }
      ra := { s.ra with totals := .zero, wait := some ⟨s.part.day, s.ra.totals, 0⟩ }
      fp := (emit (.dayChanged s.part.day (nextDay s.part.day)) u).fp } := by
  have hday : nextDay s.part.day ≠ s.part.day := by
    unfold nextDay
    split
    · omega
    · omega
  obtain ⟨hpart, hra⟩ : u.part = s.part ∧ u.ra = s.ra := by simp [← hu]
  simp only [takeDayEndRecord, hu, adoptDay_eq, State.setRa, hpart, hra, if_neg hday, if_neg hrole]
  have hfp {t : State} (ht : t.fp = u.fp) : (emit (.dayChanged s.part.day (nextDay s.part.day)) t).fp =
      (emit (.dayChanged s.part.day (nextDay s.part.day)) u).fp := emit_fp _ ht
  rw [hfp (by rfl)]

/-- Settles O46: BUSY while the exchange runs; otherwise the next day is another day, so it is adopted with its event. -/
theorem dayEndOpensTheNextDay : Obligations.DayEndOpensTheNextDay := by
  intro p s hworks hport hlength waits next u
  have hexec : exec (.dayEnd p) s = .next (ownDayEnd (hunting s)) :=
    exec_record_of_works .dayEnd p hworks hport rfl rfl (by simp [lengthOk, hlength]) (by decide)
  have hwaits : ((hunting s).ra.wait.isSome || dayRecordWaits (hunting s)) = true ↔ waits := by
    rw [Bool.or_eq_true, Option.isSome_iff_ne_none, dayRecordWaits_iff]
    rfl
  rw [hexec]
  refine ⟨fun h => congrArg _ (if_pos (hwaits.2 h)), fun h => ?_⟩
  rw [ownDayEnd, if_neg (mt hwaits.1 h), takeDayEndRecord_eq (by simp [hworks.2]) rfl]
  rfl

/-! ### The store only grows (R144, R159, R161) -/

/-- The store of `r'` is that of `r` with more items at its end, and no fewer read. -/
def RecordAssembler.Keeps (r r' : RecordAssembler) : Prop :=
  (∃ entered, r'.store = r.store ++ entered) ∧ r.readCount ≤ r'.readCount

theorem RecordAssembler.Keeps.of_eq {r r' : RecordAssembler} (hstore : r'.store = r.store)
    (hread : r'.readCount = r.readCount) : r.Keeps r' := ⟨⟨[], by simp [hstore]⟩, hread.ge⟩

theorem makeReady_keeps (c : Closed) {s t : State} (hstore : t.ra.store = s.ra.store)
    (hread : t.ra.readCount = s.ra.readCount) : s.ra.Keeps (makeReady c t).ra := by
  rw [makeReady, moveReady, enterWhileRoom_ra]
  exact ⟨⟨_, congrArg (· ++ _) hstore⟩, hread.ge⟩

theorem applied_keeps (e : AsmEntry) {s t : State} (hstore : t.ra.store = s.ra.store)
    (hread : t.ra.readCount = s.ra.readCount) : s.ra.Keeps (applied e t).ra := by
  unfold applied
  dsimp only
  split
  · exact makeReady_keeps _ hstore hread
  · exact .of_eq hstore hread

theorem labApply_keeps (k : Key) (f : EntryChange) (s : State) : s.ra.Keeps (labApply k f s).ra := by
  have hcounted : s.ra.Keeps (countMalformed s).ra := .of_eq rfl rfl
  have happlied (e : AsmEntry) {t : State} (hstore : t.ra.store = s.ra.store)
      (hread : t.ra.readCount = s.ra.readCount) : s.ra.Keeps (applyTo f e t).ra := by
    unfold applyTo
    split
    · exact applied_keeps _ hstore hread
    · exact .of_eq hstore hread
  unfold labApply
  split
  · exact hcounted
  split
  · split
    · exact hcounted
    · exact happlied _ rfl rfl
  · split
    · exact happlied _ rfl rfl
    · exact hcounted

theorem takeDaySummary_keeps (n : DaySummary) (s : State) : s.ra.Keeps (takeDaySummary n s).ra := by
  unfold takeDaySummary
  split
  · split
    · exact makeReady_keeps _ rfl rfl
    · exact .of_eq rfl rfl
  · exact .of_eq rfl rfl

/-- A notice acted on keeps the stored records: only LAB's own notices reach the laboratory. -/
theorem actOn_keeps (sender : Role) (r : Received) (s : State) : s.ra.Keeps (actOn sender r s).ra := by
  have hsame {t : State} (ht : t.ra = s.ra) : s.ra.Keeps t.ra := .of_eq (by rw [ht]) (by rw [ht])
  unfold actOn
  split
  · exact hsame (by simp)
  · unfold takeGross
    split_ifs
    · exact hsame (by simp)
    · exact hsame (by simp)
    · exact labApply_keeps ..
    · exact hsame rfl
  · unfold takeNet
    split_ifs
    · exact hsame (by simp)
    · exact hsame (by simp)
    · exact labApply_keeps ..
    · exact hsame rfl
  · split
    · exact hsame (by simp)
    · exact hsame rfl
  · split
    · exact labApply_keeps ..
    · exact hsame rfl
  · exact hsame (by simp)
  · split
    · exact takeDaySummary_keeps ..
    · exact hsame rfl

theorem receive_keeps (h : FrameHeader) (k : Nat) (p : List Byte) (s : State) : s.ra.Keeps (receive h k p s).ra := by
  have hsame {t : State} (ht : t.ra = s.ra) : s.ra.Keeps t.ra := .of_eq (by rw [ht]) (by rw [ht])
  rcases receive_cases h k p s with hr | hr | ⟨-, hr⟩ | ⟨-, hr | ⟨sender, hr | hr⟩⟩ <;> rw [hr]
  · exact hsame rfl
  · exact hsame (by simp)
  · exact hsame (by simp)
  · exact hsame (by simp)
  · exact hsame (by simp)
  · rcases checkNotice_cases h sender k p (heard sender h k p s) with hc | hc | ⟨r, -, hc⟩ <;> rw [hc]
    · exact hsame (by simp)
    · exact hsame (by simp)
    · simpa using actOn_keeps sender r (heard sender h k p s)

theorem closeEntry_keeps (cause : CloseCause) (e : AsmEntry) (s : State) : s.ra.Keeps (closeEntry cause e s).ra :=
  makeReady_keeps _ rfl rfl

/-- The owning rules of LAB's records but RELEASE keep the stored records. -/
theorem ownRule_keeps {k : RecordKind} (hk : k = .analysis ∨ k = .dayEnd ∨ k = .read) (p : List Byte) (s : State) :
    s.ra.Keeps (ownRule k p s).ra := by
  have hsame {t : State} (ht : t.ra = s.ra) : s.ra.Keeps t.ra := .of_eq (by rw [ht]) (by rw [ht])
  rcases hk with rfl | rfl | rfl
  · simp only [ownRule, ownAnalysis]
    split_ifs
    · exact hsame (by simp)
    · exact hsame (by simp)
    · exact hsame (by simp)
    · rw [(replyTo_frame ..).2.2.2.2.2.2.2.2.1]
      exact applied_keeps _ rfl rfl
  · simp only [ownRule, ownDayEnd]
    split_ifs
    · exact hsame (by simp)
    · exact .of_eq (by simp [takeDayEndRecord]) (by simp [takeDayEndRecord])
  · simp only [ownRule, ownRead]
    split
    · exact hsame (by simp)
    · split_ifs
      · exact hsame (by simp)
      · exact ⟨⟨[], by simp⟩, Nat.le_succ _⟩

/-- A timer of LAB closes an entry or ends the wait, or changes nothing (R152, R153, R165). -/
theorem exec_labTimer_cases {c : Instr} {s t : State} (hc : (∃ key, c = .completionTimerExpiry key) ∨
      (∃ key, c = .notCrushedAgeExpiry key) ∨ c = .summaryWaitExpiry) (h : exec c s = .next t) :
    t = s ∨ (∃ cause key e, findAsm key s = some e ∧ e.closed = none ∧ t = closeEntry cause e s) ∨
      ∃ w, s.ra.wait = some w ∧ t = endWait w none s := by
  rcases hc with ⟨key, rfl⟩ | ⟨key, rfl⟩ | rfl
  · simp only [exec, execCompletionTimerExpiry] at h
    split at h
    · split at h
      next e he =>
        split at h <;> cases h
        next hopen => exact .inr (.inl ⟨_, key, e, he, hopen.1, rfl⟩)
        · exact .inl rfl
      · cases h
        exact .inl rfl
    · cases h
      exact .inl rfl
  · simp only [exec, execNotCrushedAgeExpiry] at h
    split at h
    · split at h
      next e he =>
        split at h <;> cases h
        next hopen => exact .inr (.inl ⟨_, key, e, he, hopen.1, rfl⟩)
        · exact .inl rfl
      · cases h
        exact .inl rfl
    · cases h
      exact .inl rfl
  · simp only [exec, execSummaryWaitExpiry] at h
    split at h
    · split at h <;> cases h
      next w hw => exact .inr (.inr ⟨w, hw, rfl⟩)
      · exact .inl rfl
    · cases h
      exact .inl rfl

/-- Settles O48: a notice, a timer, an ANALYSIS, a DAY-END or a READ; nothing else reaches the laboratory. -/
theorem storedRecordsStayUntilReleased : Obligations.StoredRecordsStayUntilReleased := by
  intro c s t h hreset hremoves
  have hsame (ht : t.ra = s.ra) : s.ra.Keeps t.ra := .of_eq (by rw [ht]) (by rw [ht])
  have hrecord {k : RecordKind} {p : List Byte} (hk : k = .analysis ∨ k = .dayEnd ∨ k = .read)
      (hc : asRecord c = some (k, p)) : s.ra.Keeps t.ra := by
    obtain rfl : decideRecord k p (ownRule k p) s = t := by simpa [exec_asRecord s hc] using h
    rcases decideRecord_cases k p (ownRule k p) s with ⟨fp, hd⟩ | ⟨hd, -⟩ <;> rw [hd]
    · exact .of_eq rfl rfl
    · exact ownRule_keeps hk p (hunting s)
  have htimer (hc : (∃ key, c = .completionTimerExpiry key) ∨ (∃ key, c = .notCrushedAgeExpiry key) ∨
      c = .summaryWaitExpiry) : s.ra.Keeps t.ra := by
    rcases exec_labTimer_cases hc h with rfl | ⟨cause, -, e, -, -, rfl⟩ | ⟨w, -, rfl⟩
    · exact hsame rfl
    · exact closeEntry_keeps cause e s
    · exact makeReady_keeps _ rfl rfl
  rcases hreached : unitsReached c with _ | l
  · rcases unitsReached_none hreached with hc | ⟨header, kind, payload, hframe⟩ | ⟨k, p, hc, hk⟩
    · exact absurd hc (by simp [hreset])
    · obtain rfl : receive header kind payload s = t := by simpa [exec_asFrame s hframe] using h
      exact receive_keeps ..
    · have henters := hremoves p
      rcases hk with rfl | rfl
      · cases c <;> cases hc <;> simp at henters
      · cases c <;> cases hc <;> simp at henters
  · by_cases hin : UnitBlock.lab ∈ l
    · rcases unitsReached_lab hreached hin with ⟨k, p, hc, hk⟩ | hc
      · rcases hk with hk | hk | hk | rfl
        · exact hrecord (.inl hk) hc
        · exact hrecord (.inr (.inl hk)) hc
        · exact hrecord (.inr (.inr hk)) hc
        · have hfrees := hremoves p
          cases c <;> cases hc <;> simp at hfrees
      · exact htimer hc
    · exact hsame ((exec_units_frame hreached h).2.2.2.2 hin)

end Sys2Proof.Machine
end

section
/-! PROOFS. The monitors, the field port's refusals, CONFIGURE and RESTART, WITHDRAW, STATUS-REQUEST, and entry to RUN. -/

namespace Sys2Proof.Machine

/-! ### The monitors (R169 to R172, R186) -/

theorem setMon_setMon (i : MonitorId) (r r' : MonitorRec) (s : State) :
    setMon i r' (setMon i r s) = setMon i r' s := by
  simp [setMon, State.setMu]

/-- A monitor's record set, with the pause that it brings (R123). -/
def pausedBy (i : MonitorId) (r : MonitorRec) (s : State) : State :=
  { s with
    mu := ⟨s.mu.recs.set i.idx r⟩
    ja := if i = .carrierStall then { s.ja with isPaused := s.ja.isOpen && r.effective } else s.ja }

theorem syncPause_setMon (i : MonitorId) (r : MonitorRec) (s : State) :
    syncPause i (setMon i r s) = pausedBy i r s := by
  unfold syncPause pausedBy
  split
  next hi =>
    subst hi
    rw [mon_setMon]
    rfl
  · rfl

theorem activate_setMon (i : MonitorId) (r : MonitorRec) (s : State) :
    activate i (setMon i r s) =
      if r.active then setMon i r s
      else emit (.monitor i true) (pausedBy i { r with active := true, latched := r.mode == some .latched } s) := by
  simp only [activate, setActive, mon_setMon, setMon_setMon, syncPause_setMon]

theorem finish_setMon (i : MonitorId) (r : MonitorRec) (s : State) :
    finish i (setMon i r s) =
      if r.active then emit (.monitor i false) (pausedBy i { r with active := false, latched := false } s)
      else setMon i r s := by
  simp only [finish, setInactive, mon_setMon, setMon_setMon, syncPause_setMon]

theorem setMon_mon (i : MonitorId) (s : State) : setMon i (mon s i) s = s := by
  simp [setMon, mon, State.setMu]

theorem observes_iff (r : MonitorRec) : r.observes = true ↔ r.mode ≠ none ∧ r.mode ≠ some .off := by
  simp [MonitorRec.observes]

/-- Settles O49: each operation sets one record, and an activation or an ending brings its event. -/
theorem monitorsActivateAndEnd : Obligations.MonitorsActivateAndEnd := by
  refine ⟨fun ev s => ?_, fun i s => ?_⟩
  · unfold emit
    split
    · rfl
    · rfl
  · intro r turned kept count
    refine ⟨activate_setMon .., finish_setMon .., fun hoff => ?_, fun hmode hon => ⟨?_, ?_⟩, ?_⟩
    · have hidle : ¬ (mon s i).observes = true := fun h => by
        obtain ⟨hmode, hon⟩ := (observes_iff _).1 h
        exact hoff.elim hmode hon
      exact ⟨if_neg hidle, if_neg hidle⟩
    · have hobserves : (mon s i).observes = true := (observes_iff _).2 ⟨hmode, hon⟩
      simp only [observe, if_pos hobserves, mon_setMon, activate_setMon]
      by_cases hqual : count < r.qual
      · exact (if_neg (Nat.not_le.2 hqual)).trans (if_pos (.inr hqual)).symm
      · refine (if_pos (Nat.not_lt.1 hqual)).trans ?_
        by_cases hactive : r.active = true
        · exact (if_pos hactive).trans (if_pos (.inl hactive)).symm
        · exact (if_neg hactive).trans (if_neg (not_or.2 ⟨hactive, hqual⟩)).symm
    · exact if_pos ((observes_iff _).2 ⟨hmode, hon⟩)
    · unfold endingEvent
      split
      next hmode =>
        rw [← setMon_mon i s, finish_setMon, setMon_mon]
        by_cases hactive : r.active = true
        · exact (if_pos hactive).trans (if_pos ⟨hactive, hmode⟩).symm
        · exact (if_neg hactive).trans (if_neg fun h => hactive h.1).symm
      next hmode => exact (if_neg fun h => hmode h.2).symm

/-! ### The refusals (R184) -/

/-- Settles O51: the steps of R184 in their order. -/
theorem recordsAreRefusedInOrder : Obligations.RecordsAreRefusedInOrder := by
  intro c k p s hc hport st weighs served lengths inState refused early
  have hserved : servedBy k s.part.role = true ↔ served := by
    cases k <;> simp [servedBy, served, weighs, or_assoc]
  have hlength : lengthOk k s.part.role p.length = true ↔ p.length ∈ lengths := by
    rcases hrole : s.part.role with _ | r
    · cases k <;> simp [lengthOk, lengths, hrole]
    · cases k <;> cases r <;> simp [lengthOk, lengths, hrole]
  have hstate : stateServes k s.part.stationState = true ↔ inState := by
    cases k <;> simp [stateServes, inState, st, hport.1]
  have hrefused {code : ReplyCode} (h : refusal k p s = some code) : refused code := by
    unfold refused
    rw [exec_asRecord s hc, decideRecord_refused hport h]
  have hearly : early → refusal k p s = some .wrongState := by
    rintro (h | h)
    · exact if_pos h
    · by_cases hk : k = .configure ∧ s.part.stationState ≠ .config
      · exact if_pos hk
      · exact (if_neg hk).trans (if_pos h)
  have hlate (h : ¬ early) : refusal k p s =
      if !servedBy k s.part.role then some .wrongRole
      else if !lengthOk k s.part.role p.length then some .format
      else if !stateServes k s.part.stationState then some .wrongState
      else none :=
    (if_neg fun hk => h (.inl hk)).trans (if_neg fun hm => h (.inr hm))
  refine ⟨fun h => hrefused (hearly h), fun h hs => hrefused ?_, fun h hs hl => hrefused ?_,
    fun h hs hl hi => hrefused ?_⟩
  · rw [hlate h, if_pos (by simpa using mt hserved.1 hs)]
  · rw [hlate h, if_neg (by simpa using hserved.2 hs), if_pos (by simpa using mt hlength.1 hl)]
  · rw [hlate h, if_neg (by simpa using hserved.2 hs), if_neg (by simpa using hlength.2 hl),
      if_pos (by simpa using mt hstate.1 hi)]

/-! ### CONFIGURE and RESTART (R38, R39, R44, R185) -/

/-- The first check that fails gives its number (R38). -/
theorem firstFailure_split {checks before after : List FieldCheck} {n : Nat}
    (h : checks = before ++ (n, false) :: after) (hbefore : ∀ x ∈ before, x.2 = true) :
    firstFailure checks = some n := by
  have hfind : checks.find? (fun c => !c.2) = some (n, false) :=
    find_of_split h rfl fun x hx => by simp [hbefore x hx]
  rw [firstFailure, hfind]
  rfl

theorem firstFailure_none {checks : List FieldCheck} (h : ∀ x ∈ checks, x.2 = true) : firstFailure checks = none := by
  simpa [firstFailure] using h

theorem within_iff (lo hi n : Nat) : within lo hi n = true ↔ lo ≤ n ∧ n ≤ hi := by simp [within]

theorem qualOk_iff (n : Nat) : qualOk n = true ↔ n ∈ [1, 2, 4, 8] := by simp [qualOk, or_assoc]

theorem weighChecks_pass (p : List Byte) : (∀ x ∈ weighChecks p, x.2 = true) ↔
    10000 ≤ field p 2 3 ∧ field p 2 3 ≤ 120000 ∧ 1 ≤ field p 5 1 ∧ field p 5 1 ≤ 200 ∧
      2 ≤ field p 6 1 ∧ field p 6 1 ≤ 16 ∧ field p 7 2 ≤ 500 ∧ 100 ≤ field p 9 2 ∧ field p 9 2 ≤ 20000 ∧
      field p 9 2 ≤ field p 2 3 ∧ field p 11 1 ≤ 3 ∧ field p 12 1 ∈ [1, 2, 4, 8] := by
  simp only [weighChecks, List.forall_mem_cons, within_iff, qualOk_iff, Bool.and_eq_true, decide_eq_true_eq]
  simp [and_assoc]

/-- The checks of every role begin with the role code and the silence period (Table 2-6). -/
theorem settingsChecks_common (r : Role) (p : List Byte) (rest : List FieldCheck) :
    (∀ x ∈ [(0, field p 0 1 == roleCode r), (1, field p 1 1 == 5 || field p 1 1 == 10 || field p 1 1 == 30)] ++ rest,
      x.2 = true) ↔ field p 0 1 = roleCode r ∧ field p 1 1 ∈ [5, 10, 30] ∧ ∀ x ∈ rest, x.2 = true := by
  simp only [List.forall_mem_append, List.forall_mem_cons]
  simp [or_assoc, and_assoc]

/-- Settles O53: the first failing check or none, then the checks and the settings field by field. -/
theorem configureAndRestartEnterRun : Obligations.ConfigureAndRestartEnterRun := by
  refine ⟨⟨fun p s r hstate hrole hport hlength => ?_, fun p s r c hworks hc hport hlength => ?_⟩, fun p => ?_,
    fun p => ?_⟩
  · have hrefusal : refusal .configure p s = none := by
      simp only [refusal, hstate, hrole]
      cases r <;> simp [servedBy, lengthOk, stateServes, hlength]
    have hexec : exec (.configure p) s = .next (ownConfigure p (hunting s)) := exec_record rfl hport hrefusal
    have hrole' : (hunting s).part.role = some r := hrole
    rw [hexec]
    refine ⟨fun before n after hsplit hbefore => ?_, fun hpass => ?_⟩
    · simp only [ownConfigure, hrole', firstFailure_split hsplit hbefore]
      rfl
    · simp only [ownConfigure, hrole', firstFailure_none hpass]
      rfl
  · have hexec := exec_record_of_works (c := .restart p) .restart p hworks hport rfl rfl (by simp [lengthOk, hlength]) (by decide)
    have hsettings : (hunting s).part.settings = some c := hc
    rw [hexec]
    simp only [ownRule, takeRestart, hsettings]
    rfl
  · intro f passes quals common weigh
    refine ⟨?_, ?_, ?_, ?_, ?_, rfl, rfl, rfl, rfl, rfl⟩
    · exact (settingsChecks_common ..).trans (and_congr_right' (and_congr_right' (weighChecks_pass p)))
    · refine (settingsChecks_common ..).trans (and_congr_right' (and_congr_right' ?_))
      rw [List.forall_mem_append, weighChecks_pass]
      refine and_congr_right' ?_
      simp only [List.forall_mem_cons, within_iff]
      simp [f]
    · refine (settingsChecks_common ..).trans (and_congr_right' (and_congr_right' ?_))
      simp only [List.forall_mem_cons, within_iff]
      simp [and_assoc, f]
    · refine (settingsChecks_common ..).trans (and_congr_right' (and_congr_right' ?_))
      simp only [millChecks, List.forall_mem_cons, within_iff, qualOk_iff, Bool.or_eq_true, beq_iff_eq]
      simp [and_assoc, or_assoc, f, quals]
    · refine (settingsChecks_common ..).trans (and_congr_right' (and_congr_right' ?_))
      simp only [List.forall_mem_cons, within_iff]
      simp [and_assoc, f]
  · intro f mode weigh
    have hmode (n : Nat) : modeOfCode n = mode n := by
      rcases n with _ | _ | _ | n <;> rfl
    refine ⟨?_, ?_, rfl, ?_, rfl⟩
    · simp only [readSettings, weighSettings, hmode]
      rfl
    · simp only [readSettings, weighSettings, hmode]
      rfl
    · simp only [readSettings, millSettings, hmode]
      rfl

/-! ### WITHDRAW (R11) -/

/-- A position from 1 to 8 is empty, or its notice is late or leaves (R11). -/
theorem ownWithdraw_of_position {p : List Byte} {s : State} (h : 1 ≤ field p 0 1 ∧ field p 0 1 ≤ 8) :
    (s.li.queue[field p 0 1 - 1]? = none → ownWithdraw p s = replyTo .withdraw .outOfRange s) ∧
    ∀ e, s.li.queue[field p 0 1 - 1]? = some e → ownWithdraw p s =
      if e.begun then replyTo .withdraw .late s
      else replyTo .withdraw .accepted (takeWithdraw (field p 0 1 - 1) s) := by
  have hrange : ¬ (field p 0 1 = 0 ∨ Limits.transmitQueue < field p 0 1) := by
    simp only [Limits.transmitQueue]
    omega
  refine ⟨fun hnone => ?_, fun e he => ?_⟩
  · simp only [ownWithdraw, if_neg hrange, hnone]
  · simp only [ownWithdraw, if_neg hrange, he]

/-- A head in hand that is withdrawn gives way to the next (R9, R11). -/
theorem takeWithdraw_head {s : State} (hrun : s.part.stationState = .run) (hhand : s.li.inHand = some .queueHead) :
    takeWithdraw 0 s =
      let next := s.li.startedSent && !(s.li.queue.eraseIdx 0).isEmpty
      { s with
        li := { s.li.dropped with
          queue := s.li.queue.eraseIdx 0
          tx := if next then .waiting else .idle, inHand := if next then some .queueHead else none }
        mu := (conditionEnds .lineCongestion s).mu
        fp := (conditionEnds .lineCongestion s).fp } := by
  refine (if_pos ⟨rfl, hhand⟩).trans ?_
  rw [dropFrame_over (s := s) (t := s.setLi { s.li with queue := s.li.queue.eraseIdx 0 }) rfl rfl,
    takeQueueHead_dropped (by exact hrun) rfl]
  rfl

/-- Settles O57: the position's notice, and whether the head in hand is the one that leaves. -/
theorem withdrawRemovesANotice : Obligations.WithdrawRemovesANotice := by
  intro p s r hworks hroles hport hlength n
  have hserved : servedBy .withdraw (some r) = true := by
    rcases hroles with rfl | rfl | rfl <;> rfl
  have hexec : exec (.withdraw p) s = .next (ownWithdraw p (hunting s)) :=
    exec_record_of_works .withdraw p hworks hport rfl hserved (by simp [lengthOk, hlength]) (by decide)
  rw [hexec]
  refine ⟨fun hwrong => ?_, fun before e after hqueue hn hmax => ?_⟩
  · by_cases hrange : n = 0 ∨ 8 < n
    · exact congrArg _ (if_pos hrange)
    · have hentry : (hunting s).li.queue[n - 1]? = none :=
        List.getElem?_eq_none (Nat.le_pred_of_lt ((hwrong.resolve_left (mt .inl hrange)).resolve_left (mt .inr hrange)))
      exact congrArg _ ((ownWithdraw_of_position (by omega)).1 hentry)
  · intro next u
    have hposition : n - 1 = before.length := by omega
    have hlist : (hunting s).li.queue = before ++ e :: after := hqueue
    have hentry : (hunting s).li.queue[n - 1]? = some e := by
      rw [hlist, hposition, List.getElem?_append_right le_rfl, Nat.sub_self]
      rfl
    have herase : (hunting s).li.queue.eraseIdx (n - 1) = before ++ after := by
      rw [hlist, hposition, List.eraseIdx_append_of_length_le le_rfl, Nat.sub_self]
      rfl
    have hdecides := (ownWithdraw_of_position (by omega)).2 e hentry
    rw [hdecides]
    refine ⟨fun hbegun => congrArg _ (if_pos hbegun), fun hfresh hkept => ?_, fun hfresh hfirst hhand => ?_⟩
    · have hstays : ¬ (n - 1 = 0 ∧ s.li.inHand = some .queueHead) := fun h =>
        hkept.elim (fun hne => hne (by omega)) fun hne => hne h.2
      rw [if_neg (by simp [hfresh]), takeWithdraw, herase]
      exact congrArg _ (congrArg _ (if_neg hstays))
    · have hfront : field p 0 1 - 1 = 0 := by omega
      have hrest : (hunting s).li.queue.eraseIdx 0 = after := by
        have hnone : before = [] := List.eq_nil_of_length_eq_zero (by omega)
        rw [hlist, hnone]
        rfl
      rw [if_neg (by simp [hfresh]), hfront, takeWithdraw_head (s := hunting s) hworks.1 hhand, hrest]
      rfl

/-! ### Entry to RUN (R17, R39, R46, R167) -/

theorem lineStarted_eq (station : StationNo) (li : LineInterface) : li.started station = { li with
    tx := if station == 0 then .waiting else .idle
    inHand := if station == 0 then some .startedBeacon else none
    beaconTimer := if station == 0 then none else some (100 * station.val)
    frame := [], txTicks := 0, slotsLeft := 0, partSlot := 0, collisions := 0, queue := [], lastSeq := 255
    startedSent := false
    rx := if li.tx = .sending ∨ li.tx = .mark then .waitQuiet else li.rx } := by
  unfold LineInterface.started
  by_cases h : station = 0
  · subst h
    rfl
  · simp only [if_neg h, beq_false_of_ne h]
    rfl

/-- The state before PEER-SILENT is decided on entry to RUN, with the day that the station then holds (R39, R46). -/
def startedOn (d : Nat) (c : Settings) (s : State) : State :=
  { startUnits c s with
    part := { s.part with stationState := .run, settings := some c, day := d }
    fp := if d = s.part.day then s.fp else (emit (.dayChanged s.part.day d) s).fp }

theorem startedOn_same (c : Settings) (s : State) : startedOn s.part.day c s = startUnits c s := by
  unfold startedOn
  rw [if_pos rfl]
  rfl

/-- LAB takes its first day; the weigh unit's sequence starts at 1 in any case (R46, R59). -/
theorem adoptDay_startUnits (d : Nat) (c : Settings) (s : State) : adoptDay d (startUnits c s) = startedOn d c s := by
  rw [adoptDay_eq]
  by_cases hday : d = s.part.day
  · subst hday
    exact (if_pos rfl).trans (startedOn_same c s).symm
  · have hfp : (emit (.dayChanged s.part.day d) (startUnits c s)).fp = (emit (.dayChanged s.part.day d) s).fp :=
      emit_fp _ rfl
    have hwu : (if (startUnits c s).part.role = some .entry then { (startUnits c s).wu with consSeq := 1 }
        else (startUnits c s).wu) = (startUnits c s).wu := by
      split
      · rfl
      · rfl
    have hother : ¬ d = (startUnits c s).part.day := hday
    unfold startedOn
    rw [if_neg hother, if_neg hday, hwu, ← hfp]
    rfl

/-- Settles O52: the units' reset values by role, the day of LAB, then PEER-SILENT. -/
theorem entryToRunStartsTheUnits : Obligations.EntryToRunStartsTheUnits := by
  intro c s idle scale stall silent day atZero started
  have henters : enterRun c s = reportPeerSilent (startedOn day c s) := by
    unfold enterRun
    obtain ⟨seconds, role⟩ := c
    cases role with
    | lab l => exact congrArg reportPeerSilent (adoptDay_startUnits ..)
    | _ => exact congrArg reportPeerSilent (startedOn_same ..).symm
  have hmu : MonitorUnit.started c = started.mu := by
    obtain ⟨seconds, role⟩ := c
    cases role with
    | _ => rfl
  have hja : startedJuice c = started.ja := by
    obtain ⟨seconds, role⟩ := c
    cases role with
    | _ => rfl
  have hstarted : startedOn day c s = started := by
    unfold startedOn startUnits
    rw [lineStarted_eq, hmu, hja]
    rfl
  rw [henters, hstarted]
  exact reportPeerSilent_of_run rfl

end Sys2Proof.Machine
end

section
/-! PROOFS. STATUS-REQUEST, and the pins, the monitor summary and ALERT as views of the state (R175, R177, R189). -/

namespace Sys2Proof.Machine

/-! ### STATUS (R189, Table 2-7) -/

theorem toList_eq_map_finRange {α : Type} {n : Nat} (v : Vector α n) : v.toList = (List.finRange n).map (v[·]) := by
  refine List.ext_getElem (by simp) fun i h h' => ?_
  simp

theorem length_be (n v : Nat) : (be n v).length = n := by
  induction n with
  | zero => rfl
  | succ n ih => simp [be, ih]

/-- The peers of eight stations in a row (R189). -/
theorem statusPeers_eq (part : Nat) (ns : List StationNo) (s : State)
    (h : ((List.finRange 16).drop ((part - 1) * 8)).take 8 = ns) :
    statusPeers part s = BitVec.ofNat 8 part :: ns.flatMap fun n => peerBytes (peer s n) := by
  rw [statusPeers, toList_eq_map_finRange, ← List.map_drop, ← List.map_take, h, be_one, List.flatMap_map]
  rfl

/-- Settles O54: the part asked for, the room, and then the bytes of each part. -/
theorem statusGivesThePart : Obligations.StatusGivesThePart := by
  intro p s hport hlength part c state cause role station added entryBytes peers answer
  have hrefusal : refusal .statusRequest p s = none := by
    have hok : lengthOk .statusRequest s.part.role p.length = true := by
      simp only [lengthOk, Bool.or_eq_true, beq_iff_eq]
      omega
    simp [refusal, servedBy, hok, stateServes, hport.1]
  have hpart : statusPart p = part := by
    rcases p with _ | ⟨b, _ | ⟨b', p⟩⟩
    · rfl
    · simp [statusPart, field_one, part]
    · simp at hlength
  have hexec : exec (.statusRequest p) s = .next (ownStatusRequest p (hunting s)) := exec_record rfl hport hrefusal
  have hrole (r : Option Role) : (r.map roleCode).getD 0 = role r := by
    rcases r with _ | r
    · rfl
    · cases r <;> rfl
  have hentry (e : PeerEntry) : peerBytes e = entryBytes e := by
    simp only [peerBytes, be_one, hrole]
    rfl
  have hpeers {ns : List StationNo} (h : ((List.finRange 16).drop ((part - 1) * 8)).take 8 = ns) :
      statusPeers part (hunting s) = peers ns := by
    rw [statusPeers_eq part ns _ h]
    simp only [hentry]
    rfl
  have hstation : statusStation (hunting s) = station := by
    simp only [statusStation, be_one, hrole]
    rfl
  have hadded : statusRole (hunting s) = added := by
    simp only [statusRole, be_one]
    rfl
  have hanswers (hright : part ≤ 2) (hroom : s.fp.out.length < 15) :
      ownStatusRequest p (hunting s) = answer (statusPayload part (hunting s)) := by
    have hfree : ¬ Limits.eventPlaces ≤ (hunting s).fp.out.length := Nat.not_le.2 hroom
    rw [ownStatusRequest, hpart, if_neg (by omega), if_neg hfree]
    exact congrArg (fun out => ({ s with fp := { s.fp with rx := .hunt, out := out } } : State))
      (List.append_cons ..).symm
  rw [hexec]
  refine ⟨fun hwrong => ?_, fun hright hfull => ?_, fun hroom => ⟨fun h0 => ⟨?_, ?_⟩, fun h1 => ?_, fun h2 => ?_⟩⟩
  · rw [ownStatusRequest, hpart]
    exact congrArg _ (if_pos hwrong)
  · rw [ownStatusRequest, hpart]
    exact congrArg _ ((if_neg (by omega)).trans (if_pos hfull))
  · rw [hanswers (by omega) hroom, statusPayload, if_pos h0, hstation, hadded]
  · simp [station, length_be]
  · rw [hanswers (by omega) hroom, statusPayload, if_neg (by omega), hpeers (ns := [0, 1, 2, 3, 4, 5, 6, 7]) (by rw [h1]; rfl)]
  · rw [hanswers (by omega) hroom, statusPayload, if_neg (by omega), hpeers (ns := [8, 9, 10, 11, 12, 13, 14, 15]) (by rw [h2]; rfl)]

/-! ### The monitor summary and ALERT (R175, R177) -/

/-- The sixteen bits of the monitor summary (R177). -/
def MonitorUnit.summaryBit (mu : MonitorUnit) (k : Fin 16) : Bool :=
  if h : k.val < 8 then mu.recs[k.val].active else mu.recs[k.val - 8].latched

theorem flagBit_eq (i : Nat) (b : Bool) : flagBit i b = b.toNat * 2 ^ i := by
  cases b <;> simp [flagBit]

theorem summary_eq_ofBits (mu : MonitorUnit) : mu.summary = Nat.ofBits mu.summaryBit := by
  simp only [Nat.ofBits_succ, Nat.ofBits_zero, MonitorUnit.summary, MonitorId.all, flagBit_eq, List.map_cons, List.map_nil,
    List.sum_cons, List.sum_nil]
  simp [MonitorUnit.summaryBit, MonitorId.idx]
  ring

theorem summary_testBit (s : State) (i : MonitorId) :
    s.mu.summary.testBit i.idx.val = (mon s i).active ∧
    s.mu.summary.testBit (i.idx.val + 8) = (mon s i).latched := by
  rw [summary_eq_ofBits, Nat.testBit_ofBits_lt _ _ (by omega), Nat.testBit_ofBits_lt _ _ (by omega)]
  simp [MonitorUnit.summaryBit, mon]

theorem alertLow_iff (s : State) : alertLow s = true ↔ ∃ i : MonitorId, (mon s i).active = true ∧
    ((mon s i).mode = some .latched ∨ (mon s i).mode = some .recover) := by
  simp [alertLow, MonitorRec.effective, MonitorId.mem_all]

/-! ### The pins (R1, R4, R7, R181) -/

/-- An item of a list of equal pieces. -/
theorem getElem?_flatMap_of_length {α β : Type} {f : α → List β} {c : Nat} (hc : ∀ a, (f a).length = c) (l : List α)
    (i j : Nat) (hj : j < c) : (l.flatMap f)[i * c + j]? = (l[i]?).bind fun a => (f a)[j]? := by
  induction l generalizing i with
  | nil => simp
  | cons a l ih =>
    cases i with
    | zero => simp [List.getElem?_append, hc, hj]
    | succ i =>
      have hnext : (i + 1) * c + j = c + (i * c + j) := by rw [Nat.succ_mul]; omega
      simp [hnext, List.getElem?_append, hc, ih]

theorem length_flatMap_of_length {α β : Type} {f : α → List β} {c : Nat} (hc : ∀ a, (f a).length = c) (l : List α) :
    (l.flatMap f).length = l.length * c := by
  induction l with
  | nil => simp
  | cons a l ih => simp [hc, ih, Nat.succ_mul, Nat.add_comm]

theorem length_byteBits (b : Byte) : (byteBits b).length = 8 := rfl

theorem length_serialBits (b : Byte) : (serialBits b).length = 10 := rfl

theorem length_halfBits (bytes : List Byte) : (halfBits bytes).length = bytes.length * 16 := by
  rw [halfBits, length_flatMap_of_length (c := 2) (fun _ => rfl), length_flatMap_of_length length_byteBits]
  omega

/-- The two half-bits of a bit: high then low for a 1, low then high for a 0 (R1). -/
theorem halfBits_getElem? {bytes : List Byte} {i : Nat} {b : Byte} (h : bytes[i]? = some b) (j : Fin 8) :
    (halfBits bytes)[(i * 8 + j) * 2]? = some (b.getLsbD (7 - j)) ∧
    (halfBits bytes)[(i * 8 + j) * 2 + 1]? = some (!b.getLsbD (7 - j)) := by
  have hbit : (bytes.flatMap byteBits)[i * 8 + j.val]? = some (b.getLsbD (7 - j)) := by
    rw [getElem?_flatMap_of_length length_byteBits _ _ _ j.isLt, h]
    fin_cases j <;> rfl
  have hhalf (k : Nat) (hk : k < 2) : (halfBits bytes)[(i * 8 + j) * 2 + k]? = [b.getLsbD (7 - j), !b.getLsbD (7 - j)][k]? := by
    rw [halfBits, getElem?_flatMap_of_length (c := 2) (fun _ => rfl) _ _ _ hk, hbit]
    rfl
  exact ⟨hhalf 0 (by omega), hhalf 1 (by omega)⟩

/-- The ten levels of a byte: start bit low, least significant bit first, stop bit high (R181). -/
theorem wireLevels_getElem? {bytes : List Byte} {i : Nat} {b : Byte} (h : bytes[i]? = some b) :
    (bytes.flatMap serialBits)[i * 10]? = some false ∧
    (∀ j : Fin 8, (bytes.flatMap serialBits)[i * 10 + 1 + j]? = some (b.getLsbD j)) ∧
    (bytes.flatMap serialBits)[i * 10 + 9]? = some true := by
  have hlevel (k : Nat) (hk : k < 10) : (bytes.flatMap serialBits)[i * 10 + k]? = (serialBits b)[k]? := by
    rw [getElem?_flatMap_of_length length_serialBits _ _ _ hk, h]
    rfl
  refine ⟨hlevel 0 (by omega), fun j => ?_, hlevel 9 (by omega)⟩
  rw [Nat.add_assoc, hlevel (1 + j) (by omega)]
  fin_cases j <;> rfl

theorem lineEnabled_iff (s : State) : lineEnabled s = true ↔
    s.li.tx = .sending ∧ s.li.txTicks < s.li.frame.length * 64 ∨ s.li.tx = .mark ∧ s.li.txTicks < 16 := by
  have hframe : s.li.txTicks / 4 < s.li.frame.length * 16 ↔ s.li.txTicks < s.li.frame.length * 64 := by omega
  unfold lineEnabled lineLevel
  cases s.li.tx with
  | sending => simp [Limits.halfBitTicks, length_halfBits, hframe]
  | mark => simp [Limits.markTicks]
  | idle => simp
  | waiting => simp
  | backoff => simp

theorem lineReads_iff (s : State) : lineReads s = true ↔ lineLevel s ≠ some false ∧ s.wires.line.level = true := by
  unfold lineReads
  rcases lineLevel s with _ | _ | _ <;> simp

theorem lineMismatch_iff (s : State) : lineMismatch s = true ↔
    s.li.tx = .sending ∧ lineLevel s = some true ∧ s.wires.line.level = false := by
  unfold lineMismatch lineReads
  rcases lineLevel s with _ | _ | _ <;> simp

theorem txd_of_item {s : State} {it : OutItem} {rest : List OutItem} (hup : s.part.stationState ≠ .powerUp)
    (hout : s.fp.out = it :: rest) :
    txd s = ((it.wire.flatMap serialBits)[s.fp.outTicks * 24 / 625]?).getD true := by
  simp [txd, hup, hout]

/-- Settles O60: the summary's bits, ALERT, and each pin by the transmitter's state or the item sent. -/
theorem summaryAndAlertFollowTheMonitors : Obligations.SummaryAndAlertFollowTheMonitors := by
  intro s
  refine ⟨?_, summary_testBit s, alertLow_iff s, lineEnabled_iff s, fun henabled hmark => ?_, fun hreleased => ?_,
    lineReads_iff s, lineMismatch_iff s, fun i j b hsending hbyte => ?_, fun hrest => ?_, fun it rest hup hout => ?_⟩
  · rw [summary_eq_ofBits]
    exact Nat.ofBits_lt_two_pow _
  · have hticks : s.li.txTicks < Limits.markTicks := by
      simpa [lineEnabled_iff, hmark, Limits.markTicks] using henabled
    simp only [lineLevel, hmark, if_pos hticks]
  · simpa [lineEnabled] using hreleased
  · obtain ⟨hfirst, hsecond⟩ := halfBits_getElem? hbyte j
    have hlevel : lineLevel s = (halfBits s.li.frame)[s.li.txTicks / 4]? := by
      simp only [lineLevel, hsending]
    exact ⟨fun h => by rw [hlevel, h, hfirst], fun h => by rw [hlevel, h, hsecond]⟩
  · rcases hrest with hup | hempty
    · simp [txd, hup]
    · simp [txd, hempty]
  · intro slot
    have htxd : txd s = ((it.wire.flatMap serialBits)[slot]?).getD true := txd_of_item hup hout
    refine ⟨fun hpast => ?_, fun i j b hbyte => ?_⟩
    · have hnone : (it.wire.flatMap serialBits)[slot]? = none :=
        List.getElem?_eq_none (by rw [length_flatMap_of_length length_serialBits]; exact hpast)
      rw [htxd, hnone]
      rfl
    · obtain ⟨hstart, hbit, hstop⟩ := wireLevels_getElem? hbyte
      exact ⟨fun h => by rw [htxd, h, hstart]; rfl, fun h => by rw [htxd, h, hbit]; rfl,
        fun h => by rw [htxd, h, hstop]; rfl⟩

end Sys2Proof.Machine
end

section
/-! PROOFS. Discarded, damaged and unknown records, and the field port receiver byte by byte (R181 to R187). -/

namespace Sys2Proof.Machine

/-! ### The command of a complete record (R183, R184) -/

theorem toNat_byte (k : RecordKind) : k.byte.toNat = k.code := by cases k <;> rfl

theorem byte_eq_iff (k : RecordKind) (kind : Byte) : k.byte = kind ↔ k.code = kind.toNat := by
  rw [← toNat_byte, BitVec.toNat_inj]

theorem find_kind_of_code {k : RecordKind} {kind : Byte} (h : k.code = kind.toNat) :
    RecordKind.all.find? (fun k => k.byte == kind) = some k := by
  rw [← byte_eq_iff] at h
  subst h
  cases k <;> rfl

theorem find_kind_of_unknown {kind : Byte} (h : ∀ k : RecordKind, k.code ≠ kind.toNat) :
    RecordKind.all.find? (fun k => k.byte == kind) = none := by
  rw [List.find?_eq_none]
  intro k _
  simpa [byte_eq_iff] using h k

theorem asRecord_command (k : RecordKind) (p : List Byte) : asRecord (k.command p) = some (k, p) := by
  cases k <;> rfl

theorem foldl_add_eq (a : Byte) (p : List Byte) : p.foldl (· + ·) a = a + p.foldl (· + ·) 0 := by
  induction p generalizing a with
  | nil => simp
  | cons b p ih => rw [List.foldl_cons, List.foldl_cons, ih, ih (0 + b), zero_add, add_assoc]

theorem recordSum_eq (kind : Byte) (p : List Byte) (sum : Byte) :
    ([kind, BitVec.ofNat 8 p.length] ++ p ++ [sum]).foldl (· + ·) 0 =
      kind + BitVec.ofNat 8 p.length + p.foldl (· + ·) 0 + sum := by
  rw [List.foldl_append, List.foldl_append, foldl_add_eq (List.foldl _ _ [_, _]) p]
  simp

theorem recordCommand_of_wrong {kind sum : Byte} {p : List Byte}
    (h : kind + BitVec.ofNat 8 p.length + p.foldl (· + ·) 0 + sum ≠ 0) :
    recordCommand kind p sum = .recordChecksumError kind := if_pos (by rwa [recordSum_eq])

theorem recordCommand_of_unknown {kind sum : Byte} {p : List Byte}
    (h : kind + BitVec.ofNat 8 p.length + p.foldl (· + ·) 0 + sum = 0) (hk : ∀ k : RecordKind, k.code ≠ kind.toNat) :
    recordCommand kind p sum = .recordUnknownKind kind := by
  rw [recordCommand, if_neg (by rwa [recordSum_eq, not_not]), find_kind_of_unknown hk]

theorem recordCommand_of_known {kind sum : Byte} {p : List Byte} {k : RecordKind}
    (h : kind + BitVec.ofNat 8 p.length + p.foldl (· + ·) 0 + sum = 0) (hk : k.code = kind.toNat) :
    recordCommand kind p sum = k.command p := by
  rw [recordCommand, if_neg (by rwa [recordSum_eq, not_not]), find_kind_of_code hk]

/-! ### Bad records (R182 to R187) -/

theorem fieldPortTakes_iff (s : State) : fieldPortTakes s = true ↔ PortTakes s := by
  simp [fieldPortTakes, PortTakes, Limits.outbound]

theorem RecordKind.mem_all (k : RecordKind) : k ∈ RecordKind.all := by
  cases k <;> simp [RecordKind.all]

theorem inboundCodes_contains (kind : Byte) :
    inboundCodes.contains kind.toNat = false ↔ ∀ k : RecordKind, k.code ≠ kind.toNat := by
  have hcodes : inboundCodes = RecordKind.all.map RecordKind.code := rfl
  rw [hcodes]
  simp [RecordKind.mem_all, ← Bool.not_eq_true]

theorem readSerial_framing (b : Byte) :
    readSerial ([false] ++ ((List.range 8).map fun i => b.getLsbD i) ++ [false]) = some (b, false) := by
  have hread : readSerial (serialBits b) = some (byteOfBits ((List.range 8).map fun i => b.getLsbD i).reverse, true) :=
    rfl
  rw [readSerial_serialBits] at hread
  have hbyte : byteOfBits ((List.range 8).map fun i => b.getLsbD i).reverse = b := by simpa using hread.symm
  have hlow : readSerial ([false] ++ ((List.range 8).map fun i => b.getLsbD i) ++ [false]) =
    some (byteOfBits ((List.range 8).map fun i => b.getLsbD i).reverse, false) := rfl
  rw [hlow, hbyte]

theorem gapTimeout_mem_due {s : State} (hport : PortTakes s) (hrecord : s.fp.rx.inRecord = true)
    (hgap : 25000 < s.fp.gapTicks) : .recordGapTimeout ∈ due s := by
  simp [due, fieldPortDue, dueWhen, (fieldPortTakes_iff s).2 hport, hrecord, Limits.gapTicks, hgap]

/-- Settles O50: each refusal and discard, then the receiver byte by byte. -/
theorem badRecordsAreCountedOrRefused : Obligations.BadRecordsAreCountedOrRefused := by
  refine ⟨fun s hport => ?_, fun c s hport hc => ?_, fun s it rest hup hout => ?_, fun code b n taken p => ?_,
    fun s hempty hreset hport hstopped hhunt hgap => ?_, fun s => ⟨fun hnone => ?_, fun next rest hrxd => ?_⟩⟩
  · have htakes := (fieldPortTakes_iff s).2 hport
    exact ⟨congrArg _ (if_pos htakes), congrArg _ (if_pos htakes), fun kind => if_pos htakes,
      fun kind hkind => if_pos ⟨htakes, (inboundCodes_contains kind).2 hkind⟩⟩
  · have hlost : ¬ fieldPortTakes s = true := mt (fieldPortTakes_iff s).1 hport
    rcases hc with hrecord | rfl | rfl | ⟨kind, rfl⟩ | ⟨kind, rfl⟩
    · obtain ⟨⟨k, p⟩, hkp⟩ := Option.ne_none_iff_exists'.1 hrecord
      rw [exec_asRecord s hkp, decideRecord_lost hport]
    · exact congrArg _ (if_neg hlost)
    · exact congrArg _ (if_neg hlost)
    · exact if_neg hlost
    · exact if_neg fun h => hlost h.1
  · have hsent : s.part.stationState ≠ .powerUp ∧ s.fp.out ≠ [] := ⟨hup, by simp [hout]⟩
    simp only [exec, execOutboundItemSent, if_pos hsent]
    rw [hout]
    rfl
  · intro bits sum known
    have hsum : code + BitVec.ofNat 8 p.length + p.foldl (· + ·) 0 + b = 0 ↔ sum = 0 := by
      rw [← BitVec.toNat_inj]
      rfl
    refine ⟨readSerial_serialBits b, readSerial_framing b, rfl, rfl, rfl, fun hlong => ?_, fun hnone => ?_,
      fun hsome hshort => ?_, fun hmore => ?_, fun hlast => ?_, fun hwrong => ?_, fun hzero hunknown => ?_,
      fun k hzero hk => ?_, rfl, rfl, fun rx hstopped hhunt => ?_⟩
    · exact if_pos hlong
    · subst hnone
      rfl
    · exact (if_neg (Nat.not_lt.2 hshort)).trans (if_neg hsome)
    · exact if_pos (c := (taken ++ [b]).length < n) (by simpa using hmore)
    · exact if_neg (c := (taken ++ [b]).length < n) (by simpa using hlast)
    · exact congrArg (fun c => (FieldRx.hunt, [c])) (recordCommand_of_wrong (mt hsum.1 hwrong))
    · exact congrArg (fun c => (FieldRx.hunt, [c]))
        (recordCommand_of_unknown (hsum.2 hzero) fun k hk => hunknown ⟨k, hk⟩)
    · exact ⟨k.command p, congrArg (fun c => (FieldRx.hunt, [c])) (recordCommand_of_known (hsum.2 hzero) hk),
        asRecord_command k p⟩
    · cases rx with
      | stopped => exact absurd rfl hstopped
      | hunt => exact absurd rfl hhunt
      | _ => rfl
  · have hmem := gapTimeout_mem_due hport (by cases h : s.fp.rx <;> simp_all [FieldRx.inRecord]) hgap
    refine ⟨s.pending ++ due s, ?_, List.mem_append_right _ hmem⟩
    have hdue : due s ≠ [] := List.ne_nil_of_mem hmem
    simp only [step, hempty, tick, hreset, if_neg hdue]
    rfl
  · simp only [tickSerial, hnone]
  · intro left
    have hleft : s.setWires { s.wires with rxd := nearer rest } = { s with wires := left } := by
      cases rest with
      | nil => rfl
      | cons b more => rfl
    have htick : tickSerial s = if next.wait = 0 then takeSerialByte next.levels { s with wires := left }
        else s.setWires { s.wires with rxd := nearer (next :: rest) } := by
      simp only [tickSerial, hrxd, hleft]
    refine ⟨fun hwait => htick.trans (if_neg hwait), fun hcome hlost => ?_, fun b stop hcome htakes hread => ?_⟩
    · rw [htick, if_pos hcome, takeSerialByte]
      rcases hread : readSerial next.levels with _ | ⟨b, stop⟩
      · rfl
      · have hport : ¬ fieldPortTakes s = true :=
          mt (fieldPortTakes_iff s).1 (hlost.resolve_right (by simp [hread]))
        exact if_neg hport
    · rw [htick, if_pos hcome, takeSerialByte, hread]
      exact if_pos ((fieldPortTakes_iff s).2 htakes)

end Sys2Proof.Machine
end

section
/-! PROOFS. Layouts: values in bytes, frames and records through the receivers, and the outbound payloads (R4, R5, R12, R33, R34, R181). -/

namespace Sys2Proof.Machine

/-! ### Values in bytes (R33) -/

theorem fromBe_cons (b : Byte) (bs : List Byte) : fromBe (b :: bs) = b.toNat * 256 ^ bs.length + fromBe bs := by
  have hfold (start : Nat) (l : List Byte) : l.foldl (fun acc b => acc * 256 + b.toNat) start =
      start * 256 ^ l.length + l.foldl (fun acc b => acc * 256 + b.toNat) 0 := by
    induction l generalizing start with
    | nil => simp
    | cons c l ih =>
      rw [List.foldl_cons, List.foldl_cons, ih, ih (0 * 256 + c.toNat), List.length_cons, Nat.pow_succ]
      ring
  rw [fromBe, List.foldl_cons, hfold]
  simp [fromBe]

theorem fromBe_lt (bs : List Byte) : fromBe bs < 256 ^ bs.length := by
  induction bs with
  | nil => simp [fromBe]
  | cons b bs ih =>
    have hb : b.toNat + 1 ≤ 256 := b.isLt
    rw [fromBe_cons, List.length_cons, Nat.pow_succ]
    nlinarith [Nat.mul_le_mul_right (256 ^ bs.length) hb]

theorem fromBe_be (n v : Nat) : fromBe (be n v) = v % 256 ^ n := by
  induction n with
  | zero => simp [be, fromBe, Nat.mod_one]
  | succ n ih =>
    have hdigits : v % 256 ^ (n + 1) = v % 256 ^ n + 256 ^ n * (v / 256 ^ n % 256) := by rw [Nat.pow_succ, Nat.mod_mul]
    have hbyte : (BitVec.ofNat 8 (v / 256 ^ n)).toNat = v / 256 ^ n % 256 := BitVec.toNat_ofNat ..
    rw [be, fromBe_cons, ih, length_be, hbyte, hdigits, Nat.mul_comm, Nat.add_comm]

theorem field_lt (p : List Byte) (off n : Nat) : field p off n < 256 ^ n :=
  (fromBe_lt _).trans_le (Nat.pow_le_pow_right (by omega) (by simp))

theorem field_append_of_le {x y : List Byte} {off n : Nat} (h : x.length ≤ off) :
    field (x ++ y) off n = field y (off - x.length) n := by
  rw [field, List.drop_append, List.drop_eq_nil_of_le h]
  rfl

theorem field_append_left {x y : List Byte} {off n : Nat} (h : off + n ≤ x.length) :
    field (x ++ y) off n = field x off n := by
  rw [field, List.drop_append_of_le_length (by omega), List.take_append_of_le_length (by simp; omega)]
  rfl

theorem field_append_here {x y : List Byte} {n : Nat} (h : x.length = n) : field (x ++ y) 0 n = fromBe x := by
  rw [field, List.drop_zero, List.take_append, ← h]
  simp

theorem field_all {x : List Byte} {n : Nat} (h : x.length = n) : field x 0 n = fromBe x := by
  simpa using field_append_here (y := []) h

/-! ### Frames (R4, R5, R12) -/

/-- The bytes after the sync byte are taken whole, and the CRC decides (R5, R12). -/
theorem takeFrame_of_body {source kind : Byte} {seq : SeqNo} {payload : List Byte} (crc : BitVec 16)
    (h : payload.length ≤ 48) :
    let header := [source, kind, seq, BitVec.ofNat 8 payload.length]
    takeFrame (header ++ payload ++ be 2 crc.toNat) =
      if crc = crc16 (header ++ payload) then .ok (header, payload) else .error .crcError := by
  intro header
  have hlength : (header ++ payload ++ be 2 crc.toNat).length = payload.length + 6 := by
    simp [header, length_be]
  have hcount : field (header ++ payload ++ be 2 crc.toNat) 3 1 = payload.length := by
    simp [header, field, fromBe]
    omega
  have hbody : (header ++ payload ++ be 2 crc.toNat).take (payload.length + 4) = header ++ payload := by
    rw [List.take_append_of_le_length (by simp [header]), List.take_of_length_le (by simp [header])]
  have hcrc : field (header ++ payload ++ be 2 crc.toNat) (payload.length + 4) 2 = crc.toNat := by
    rw [field_append_of_le (by simp [header])]
    have hrest : payload.length + 4 - (header ++ payload).length = 0 := by simp [header]
    rw [hrest, field_all (length_be ..), fromBe_be]
    exact Nat.mod_eq_of_lt crc.isLt
  unfold takeFrame
  rw [hcount, hlength, if_neg (by omega), if_neg (by simp [Limits.framePayload]; omega), if_neg (by omega)]
  simp only [hbody, hcrc, BitVec.toNat_inj]
  rfl

theorem byteOfBits_byteBits (b : Byte) : byteOfBits (byteBits b) = b := by
  have hread : readSerial (serialBits b) = some (byteOfBits (byteBits b), true) := rfl
  rw [readSerial_serialBits] at hread
  simpa using hread.symm

/-- The bits of whole bytes give the bytes back, whatever follows (R1). -/
theorem bytesOfBits_append (bytes : List Byte) (rest : List Bool) :
    bytesOfBits (bytes.flatMap byteBits ++ rest) = bytes ++ bytesOfBits rest := by
  induction bytes with
  | nil => rfl
  | cons b bytes ih =>
    have hone (l : List Bool) : bytesOfBits (byteBits b ++ l) = byteOfBits (byteBits b) :: bytesOfBits l := rfl
    rw [List.flatMap_cons, List.append_assoc, hone, ih, byteOfBits_byteBits]
    rfl

theorem bytesOfBits_bits (bytes : List Byte) : bytesOfBits (bytes.flatMap byteBits) = bytes := by
  simpa [bytesOfBits] using bytesOfBits_append bytes []

/-- Bits short of the header's 32 are kept (R12). -/
theorem takeAll_header {pre bits : List Bool} (h : pre.length + bits.length < 32) :
    takeAll LineRx.takeBit (.header pre) bits = (.header (pre ++ bits), []) := by
  induction bits generalizing pre with
  | nil => simp
  | cons b bits ih =>
    have hone : (LineRx.header pre).takeBit b = (.header (pre ++ [b]), []) :=
      if_pos (c := (pre ++ [b]).length < 32) (by simp at h ⊢; omega)
    rw [takeAll_cons, hone, ih (by simp at h ⊢; omega)]
    simp

theorem length_bits (bytes : List Byte) : (bytes.flatMap byteBits).length = bytes.length * 8 :=
  length_flatMap_of_length length_byteBits bytes

/-- A whole header with a length up to 48 leads to the body (R12). -/
theorem takeAll_header_whole {header : List Byte} (h : header.length = 4) (hlength : field header 3 1 ≤ 48) :
    takeAll LineRx.takeBit (.header []) (header.flatMap byteBits) = (.body (header.flatMap byteBits), []) := by
  have hbits := length_bits header
  obtain ⟨bits, last, hsplit⟩ : ∃ bits last, header.flatMap byteBits = bits ++ [last] :=
    ⟨_, _, (List.dropLast_append_getLast (List.ne_nil_of_length_pos (by omega))).symm⟩
  have hcount : bits.length = 31 := by
    rw [hsplit] at hbits
    simp at hbits
    omega
  have hlast : (LineRx.header bits).takeBit last = (.body (header.flatMap byteBits), []) := by
    have hwhole : ¬ (bits ++ [last]).length < 32 := by simp [hcount]
    have hshort : ¬ Limits.framePayload < field (bytesOfBits (bits ++ [last])) 3 1 := by
      rw [← hsplit, bytesOfBits_bits]
      exact Nat.not_lt.2 hlength
    rw [hsplit]
    exact (if_neg hwhole).trans (if_neg hshort)
  rw [hsplit, takeAll_append, takeAll_header (by simp [hcount]), ← hsplit]
  simp [hlast]

/-- A bit of the body: kept, or the last (R12). -/
theorem takeBit_body {header : List Byte} (h : header.length = 4) (pre : List Bool) (b : Bool) :
    (LineRx.body (header.flatMap byteBits ++ pre)).takeBit b =
      (.body (header.flatMap byteBits ++ (pre ++ [b])),
        if 32 + pre.length + 1 < (field header 3 1 + 6) * 8 then []
        else [endedFrame (header ++ bytesOfBits (pre ++ [b]))]) := by
  have hbytes : bytesOfBits (header.flatMap byteBits ++ pre ++ [b]) = header ++ bytesOfBits (pre ++ [b]) := by
    rw [List.append_assoc, bytesOfBits_append]
  have hcount : field (header ++ bytesOfBits (pre ++ [b])) 3 1 = field header 3 1 := field_append_left (by omega)
  have hlength : (header.flatMap byteBits ++ pre ++ [b]).length = 32 + pre.length + 1 := by
    rw [List.length_append, List.length_append, length_bits, h]
    rfl
  simp only [LineRx.takeBit, hbytes, hcount, hlength]
  rw [List.append_assoc]
  split
  · rfl
  · rfl

/-- Bits short of the frame's end are kept (R12). -/
theorem takeAll_body {header : List Byte} (h : header.length = 4) {pre bits : List Bool}
    (hshort : 32 + pre.length + bits.length < (field header 3 1 + 6) * 8) :
    takeAll LineRx.takeBit (.body (header.flatMap byteBits ++ pre)) bits =
      (.body (header.flatMap byteBits ++ (pre ++ bits)), []) := by
  induction bits generalizing pre with
  | nil => simp
  | cons b bits ih =>
    rw [List.length_cons] at hshort
    rw [takeAll_cons, takeBit_body h, if_pos (by omega), ih (by simp; omega)]
    simp

/-- The last bit ends the frame (R12). -/
theorem takeAll_frame {header rest : List Byte} (h : header.length = 4) (hlength : field header 3 1 ≤ 48)
    (hrest : rest.length = field header 3 1 + 2) :
    (takeAll LineRx.takeBit (.header []) ((header ++ rest).flatMap byteBits)).2 = [endedFrame (header ++ rest)] := by
  have hbits := length_bits rest
  obtain ⟨bits, last, hsplit⟩ : ∃ bits last, rest.flatMap byteBits = bits ++ [last] :=
    ⟨_, _, (List.dropLast_append_getLast (List.ne_nil_of_length_pos (by omega))).symm⟩
  have hcount : bits.length + 1 = rest.length * 8 := by
    rw [hsplit] at hbits
    simpa using hbits
  have hbody := takeAll_body h (pre := []) (bits := bits) (by simp; omega)
  rw [List.append_nil, List.nil_append] at hbody
  rw [List.flatMap_append, takeAll_append, takeAll_header_whole h hlength, hsplit, takeAll_append, hbody]
  simp only [takeAll_cons, takeAll_nil, takeBit_body h, ← hsplit, bytesOfBits_bits]
  rw [if_neg (by omega)]
  rfl

/-- Sync is found at the end of preamble and sync byte, and not before (R4, R12). -/
theorem takeAll_preamble :
    takeAll LineRx.takeBit (.hunt []) (([0xAA, 0xAA, 0xB4] : List Byte).flatMap byteBits) = (.header [], []) := by
  decide

/-- The ear takes the half-bits of a frame as the receiver takes its bits (R1, log 33). -/
theorem ear_frame (bytes : List Byte) :
    (takeAll LineEar.take ⟨.hunt [], none, true⟩ ((([0xAA, 0xAA, 0xB4] ++ bytes).flatMap byteBits).flatMap bitLevels)).2 =
      (takeAll LineRx.takeBit (.header []) (bytes.flatMap byteBits)).2 := by
  obtain ⟨first, hfirst⟩ : ∃ l, ([0xAA, 0xAA, 0xB4] ++ bytes).flatMap byteBits = true :: l := ⟨_, rfl⟩
  obtain ⟨last, hlast⟩ := ear_bits ((LineRx.hunt []).takeBit true).1 false first
  have hbits : (takeAll LineRx.takeBit (.hunt []) (([0xAA, 0xAA, 0xB4] ++ bytes).flatMap byteBits)).2 =
      (takeAll LineRx.takeBit (.header []) (bytes.flatMap byteBits)).2 := by
    rw [List.flatMap_append, takeAll_append, takeAll_preamble]
    rfl
  rw [← hbits, hfirst, List.flatMap_cons, takeAll_append, ear_first, hlast]
  rfl

theorem asFrame_frameCommand (h : FrameHeader) (kind : Byte) (p : List Byte) :
    asFrame (frameCommand h kind p) = some (h, kind.toNat, p) := by
  unfold frameCommand
  split
  all_goals simp_all [asFrame]

/-- The half-bits of a frame give its reception, or CRC-ERROR with another CRC (R5, R12). -/
theorem ear_takes_frame {source kind : Byte} {seq : SeqNo} {payload header : List Byte} (crc : BitVec 16)
    (h : payload.length ≤ 48) (hheader : header = [source, kind, seq, BitVec.ofNat 8 payload.length]) :
    (takeAll LineEar.take ⟨.hunt [], none, true⟩
      ((([0xAA, 0xAA, 0xB4] ++ (header ++ payload) ++ be 2 crc.toNat).flatMap byteBits).flatMap bitLevels)).2 =
      [if crc = crc16 (header ++ payload) then frameCommand (readHeader source seq) kind payload
        else .frameError .crcError] := by
  subst hheader
  set header := [source, kind, seq, BitVec.ofNat 8 payload.length] with hheader
  have hbytes : [0xAA, 0xAA, 0xB4] ++ (header ++ payload) ++ be 2 crc.toNat =
      [0xAA, 0xAA, 0xB4] ++ (header ++ (payload ++ be 2 crc.toNat)) := by simp
  have hcount : field header 3 1 = payload.length := by
    simp [header, field, fromBe]
    omega
  rw [hbytes, ear_frame, takeAll_frame rfl (hcount ▸ h) (by simp [hcount, length_be])]
  have htaken : takeFrame (header ++ (payload ++ be 2 crc.toNat)) =
      if crc = crc16 (header ++ payload) then .ok (header, payload) else .error .crcError := by
    rw [← List.append_assoc]
    exact takeFrame_of_body crc h
  by_cases hcrc : crc = crc16 (header ++ payload)
  · rw [if_pos hcrc] at htaken ⊢
    simp only [endedFrame, htaken]
    rfl
  · rw [if_neg hcrc] at htaken ⊢
    simp only [endedFrame, htaken]

theorem sourceByte_toNat (station : StationNo) (r : Role) (fresh : Bool) :
    (sourceByte station (roleCode r) fresh).toNat = station.val * 16 + roleCode r * 2 + fresh.toNat := by
  have hrole : roleCode r ≤ 5 := by cases r <;> simp [roleCode]
  have hfresh : flagBit 0 fresh = fresh.toNat := by cases fresh <;> rfl
  have hbit : fresh.toNat ≤ 1 := fresh.toNat_le
  rw [sourceByte, BitVec.toNat_ofNat, hfresh]
  omega

/-! ### Field records (R181 to R184) -/

theorem wireRecord_sum (kind : Nat) (payload : List Byte) :
    ((wireRecord kind payload).drop 1).foldl (· + ·) 0 = (0 : Byte) := by
  have hdrop : (wireRecord kind payload).drop 1 = ([BitVec.ofNat 8 kind, BitVec.ofNat 8 payload.length] ++ payload) ++
      [checksum ([BitVec.ofNat 8 kind, BitVec.ofNat 8 payload.length] ++ payload)] := rfl
  rw [hdrop, List.foldl_append]
  simp [checksum]

/-- The payload's bytes are gathered up to the length byte's count (R182). -/
theorem takeAll_recordPayload (code : Byte) {n : Nat} {pre payload : List Byte} (hn : pre.length + payload.length = n)
    (hne : payload ≠ []) :
    takeAll FieldRx.takeByte (.payload code n pre) payload = (.check code (pre ++ payload), []) := by
  induction payload generalizing pre with
  | nil => exact absurd rfl hne
  | cons b rest ih =>
    rw [List.length_cons] at hn
    rw [takeAll_cons]
    rcases rest with _ | ⟨b', rest⟩
    · have hlast : (FieldRx.payload code n pre).takeByte b = (.check code (pre ++ [b]), []) :=
        if_neg (c := (pre ++ [b]).length < n) (by simp at hn ⊢; omega)
      rw [hlast]
      rfl
    · have hmore : (FieldRx.payload code n pre).takeByte b = (.payload code n (pre ++ [b]), []) :=
        if_pos (c := (pre ++ [b]).length < n) (by simp at hn ⊢; omega)
      rw [hmore, ih (by simp at hn ⊢; omega) (by simp)]
      simp

/-- A record from its start byte to its check byte gives the command that its sum and kind stand for (R181 to R184). -/
theorem takeAll_record (code sum : Byte) {payload : List Byte} (h : payload.length ≤ 60) :
    takeAll FieldRx.takeByte .hunt ([0xA5, code, BitVec.ofNat 8 payload.length] ++ payload ++ [sum]) =
      (.hunt, [recordCommand code payload sum]) := by
  have hlength : (BitVec.ofNat 8 payload.length).toNat = payload.length := by
    rw [BitVec.toNat_ofNat]
    omega
  have hpayload : takeAll FieldRx.takeByte (.length code) (BitVec.ofNat 8 payload.length :: payload) =
      (.check code payload, []) := by
    rw [takeAll_cons]
    rcases payload with _ | ⟨b, rest⟩
    · rfl
    · have hstart : (FieldRx.length code).takeByte (BitVec.ofNat 8 (b :: rest).length) =
          (.payload code (b :: rest).length [], []) := by
        have hlong : ¬ Limits.recordPayload < (BitVec.ofNat 8 (b :: rest).length).toNat := Nat.not_lt.2 (hlength.le.trans h)
        have hzero : ¬ BitVec.ofNat 8 (b :: rest).length = 0 := fun hz => by
          rw [hz] at hlength
          simp at hlength
        refine (if_neg hlong).trans ((if_neg hzero).trans ?_)
        rw [hlength]
      rw [hstart, takeAll_recordPayload code (by simp) (by simp)]
      rfl
  have hsplit : [0xA5, code, BitVec.ofNat 8 payload.length] ++ payload ++ [sum] =
      [0xA5, code] ++ ((BitVec.ofNat 8 payload.length :: payload) ++ [sum]) := by simp
  have hstart : takeAll FieldRx.takeByte .hunt [0xA5, code] = (.length code, []) := rfl
  rw [hsplit, takeAll_append, hstart, takeAll_append, hpayload]
  rfl

/-- A record as sent, up to its check byte and with it (R181). -/
theorem wireRecord_eq (kind : Nat) (payload : List Byte) : wireRecord kind payload =
    [0xA5, BitVec.ofNat 8 kind, BitVec.ofNat 8 payload.length] ++ payload ++
      [checksum ([BitVec.ofNat 8 kind, BitVec.ofNat 8 payload.length] ++ payload)] := rfl

/-- The sum of a whole record is 0 with its own check byte alone (R181). -/
theorem recordSum_zero_iff (kind : Byte) (payload : List Byte) (sum : Byte) :
    kind + BitVec.ofNat 8 payload.length + payload.foldl (· + ·) 0 + sum = 0 ↔
      sum = checksum ([kind, BitVec.ofNat 8 payload.length] ++ payload) := by
  have hinner : ([kind, BitVec.ofNat 8 payload.length] ++ payload).foldl (· + ·) 0 =
      kind + BitVec.ofNat 8 payload.length + payload.foldl (· + ·) 0 := by
    rw [List.foldl_append, foldl_add_eq]
    simp
  rw [checksum, hinner, zero_sub, add_comm, ← eq_neg_iff_add_eq_zero]

/-! ### Outbound payloads (Tables 2-7, 2-8 and 2-10) -/

/-- A piece of a list of pieces, by its place and their lengths. -/
theorem slice_flatten {α : Type} {parts : List (List α)} {lengths : List Nat} (hlengths : parts.map List.length = lengths)
    {i off n : Nat} {part : List α} (h : parts[i]? = some part) (hoff : (lengths.take i).sum = off)
    (hn : lengths[i]? = some n) : (parts.flatten.drop off).take n = part := by
  obtain ⟨hi, rfl⟩ := List.getElem?_eq_some_iff.1 h
  have hsplit : parts.flatten = (parts.take i).flatten ++ (parts[i] ++ (parts.drop (i + 1)).flatten) :=
    calc parts.flatten = (parts.take i ++ parts.drop i).flatten := by rw [List.take_append_drop]
      _ = _ := by rw [List.drop_eq_getElem_cons hi, List.flatten_append, List.flatten_cons]
  have hpast : (parts.take i).flatten.length = off := by rw [List.length_flatten, List.map_take, hlengths, hoff]
  have hlength : parts[i].length = n := by
    rw [← hlengths, List.getElem?_map, h] at hn
    simpa using hn
  rw [hsplit, List.drop_left' hpast, List.take_left' hlength]

theorem ofNat_mod (v : Nat) : BitVec.ofNat 8 (v % 256) = BitVec.ofNat 8 v := BitVec.eq_of_toNat_eq (by simp)

theorem keyBytes_eq (k : Key) : keyBytes k =
    be 2 k.day ++ [BitVec.ofNat 8 (k.seq / 256 * 16 + k.origin.val), BitVec.ofNat 8 (k.seq % 256)] := by
  rw [ofNat_mod]
  rfl

/-- The pieces of a CONSIGNMENT-RECORD (Table 2-10). -/
def ConsRecord.pieces (r : ConsRecord) : List (List Byte) :=
  [keyBytes r.key, be 1 r.cause.code, be 1 r.presence, be 2 r.flags.toNat, be 2 r.lotFlags.toNat,
    (r.gross.map fun g => g.plate ++ be 2 g.grower ++ be 3 g.gross).getD (List.replicate 13 0),
    (r.net.map fun n => be 3 n.tare ++ be 3 n.net ++ be 1 n.basis.code).getD (List.replicate 7 0),
    beSat 3 r.massBasis, be 1 (r.parts * 16 + r.m), beSat 3 r.crushed, beSat 3 r.creditedMeasured,
    beSat 3 r.creditedEstimated, beSat 3 r.juice,
    (r.analysis.map fun a => beSat 2 a.brix ++ beSat 2 a.pol ++ beSat 2 a.purity ++ beSat 3 a.sucrose).getD
      (List.replicate 9 0),
    beSat 2 r.juicePerTonne, (r.analysis.map fun a => beSat 2 a.sucrosePerTonne).getD (List.replicate 2 0)]

theorem ConsRecord.payload_eq (r : ConsRecord) : r.payload = r.pieces.flatten := by
  unfold ConsRecord.payload ConsRecord.pieces
  cases r.gross <;> cases r.net <;> cases r.analysis <;> simp [be]

theorem ConsRecord.pieces_length {r : ConsRecord} (h : ∀ g, r.gross = some g → g.plate.length = 8) :
    r.pieces.map List.length = [4, 1, 1, 2, 2, 13, 7, 3, 1, 3, 3, 3, 3, 9, 2, 2] := by
  have hgross : ((r.gross.map fun g => g.plate ++ be 2 g.grower ++ be 3 g.gross).getD (List.replicate 13 0)).length =
      13 := by
    cases hg : r.gross with
    | none => rfl
    | some g => simp [length_be, h g hg]
  have hnet : ((r.net.map fun n => be 3 n.tare ++ be 3 n.net ++ be 1 n.basis.code).getD (List.replicate 7 0)).length =
      7 := by
    cases r.net with
    | none => rfl
    | some n => simp [length_be]
  have hanalysis : ((r.analysis.map fun a => beSat 2 a.brix ++ beSat 2 a.pol ++ beSat 2 a.purity ++ beSat 3 a.sucrose).getD
      (List.replicate 9 0)).length = 9 := by
    cases r.analysis with
    | none => rfl
    | some a => simp [length_be, beSat]
  have hperTonne : ((r.analysis.map fun a => beSat 2 a.sucrosePerTonne).getD (List.replicate 2 0)).length = 2 := by
    cases r.analysis with
    | none => rfl
    | some a => simp [length_be, beSat]
  simp only [ConsRecord.pieces, List.map_cons, List.map_nil, hgross, hnet, hanalysis, hperTonne]
  simp [length_be, beSat, keyBytes]

/-- The pieces of a DAY-RECORD (Table 2-10). -/
def DayRecord.pieces (r : DayRecord) : List (List Byte) :=
  [be 2 r.day, beSat 2 r.totals.records, beSat 4 r.totals.netSum, beSat 4 r.totals.juiceSum, beSat 4 r.totals.sucroseSum] ++
  match r.mill with
  | some c => [be 4 c.entered.toNat, be 4 c.carriedIn.toNat, be 4 c.corrections.toNat, be 4 c.crushed.toNat,
      be 4 c.onCarrier.toNat, be 4 c.writtenOff.toNat, be 4 c.measured.toNat, be 4 c.creditedMeasured.toNat,
      be 4 c.creditedEstimated.toNat, be 4 c.unallocated.toNat, be 2 c.periods, be 2 c.forced]
  | none => []

theorem DayRecord.payload_eq (r : DayRecord) : r.payload = r.pieces.flatten := by
  unfold DayRecord.payload DayRecord.pieces
  cases r.mill <;> simp [MillCounters.bytes]

theorem DayRecord.pieces_length (r : DayRecord) : r.pieces.map List.length =
    [2, 2, 4, 4, 4] ++ if r.mill.isSome then [4, 4, 4, 4, 4, 4, 4, 4, 4, 4, 2, 2] else [] := by
  unfold DayRecord.pieces
  cases r.mill <;> simp [length_be, beSat]

/-- Settles O59: frames and records through their receivers, and the outbound payloads piece by piece. -/
theorem framesAndRecordsCheck : Obligations.FramesAndRecordsCheck := by
  refine ⟨fun station r fresh kind seq payload hlength hkind => ?_, fun kind payload => ?_,
    fun source kind seq payload crc hlength => ?_, fun payload hlength => ⟨fun k => ?_, fun kind hkind => ?_, fun kind sum hsum => ?_⟩,
    fun item => ?_, fun n v => ⟨length_be n v, fromBe_be n v⟩⟩
  · intro body
    have hdrop : (frameBytes body).drop 3 = body ++ be 2 (crc16 body).toNat := rfl
    have hrole : roleCode r ≤ 5 := by cases r <;> simp [roleCode]
    have hbit : fresh.toNat ≤ 1 := fresh.toNat_le
    refine ⟨sourceByte station (roleCode r) fresh, ?_, ?_, ?_, sourceByte_getLsbD_zero ..⟩
    · rw [hdrop]
      exact (takeFrame_of_body (crc16 body) hlength).trans (if_pos rfl)
    · rw [sourceByte_toNat]
      omega
    · rw [sourceByte_toNat]
      omega
  · refine ⟨rfl, wireRecord_sum kind payload, ?_, rfl⟩
    simp [wireRecord]
  · intro body bits heard
    have hheard : heard.2 = [if crc = crc16 body then frameCommand (readHeader source seq) kind payload
        else .frameError .crcError] :=
      ear_takes_frame crc hlength rfl
    refine ⟨fun hwrong => by rw [hheard, if_neg hwrong], fun hright => ?_⟩
    have hsource := source.isLt
    refine ⟨_, readHeader source seq, by rw [hheard, if_pos hright], asFrame_frameCommand .., ?_, rfl, rfl, rfl⟩
    exact Nat.mod_eq_of_lt (by omega)
  · have hkind : BitVec.ofNat 8 k.code = k.byte := rfl
    refine ⟨k.command payload, ?_, asRecord_command k payload⟩
    rw [wireRecord_eq, takeAll_record _ _ hlength, hkind,
      recordCommand_of_known ((recordSum_zero_iff ..).2 rfl) (toNat_byte k).symm]
  · rw [wireRecord_eq, takeAll_record _ _ hlength, BitVec.ofNat_toNat, BitVec.setWidth_eq,
      recordCommand_of_unknown ((recordSum_zero_iff ..).2 rfl) hkind]
  · rw [wireRecord_eq, List.getLast?_concat] at hsum
    rw [wireRecord_eq, List.dropLast_concat, takeAll_record _ _ hlength]
    rw [BitVec.ofNat_toNat, BitVec.setWidth_eq] at hsum ⊢
    rw [recordCommand_of_wrong fun hzero => hsum (congrArg some ((recordSum_zero_iff ..).1 hzero).symm)]
  · intro keyBytes' named lotNamed kindByte replyByte monitorByte
    have hkind (n : NoticeKind) : BitVec.ofNat 8 n.code = kindByte n := by cases n <;> rfl
    have hnamed (k : Key) : keyAndFlags k = named k := by
      have hflag : BitVec.ofNat 8 (flagBit 0 k.synthetic) = if k.synthetic then 1 else 0 := by
        cases k.synthetic <;> rfl
      rw [keyAndFlags, keyBytes_eq, be_one, hflag]
    cases item with
    | reply kind code detail =>
      have hcode : BitVec.ofNat 8 code.code = replyByte code := by cases code <;> rfl
      exact ⟨rfl, by simp only [OutItem.payload, be_one, hcode]; rfl⟩
    | status payload => exact ⟨rfl, rfl⟩
    | captured mass => exact ⟨rfl, rfl⟩
    | sent kind name =>
      refine ⟨rfl, ?_⟩
      simp only [OutItem.payload, be_one, hkind]
      cases name with
      | key k => exact congrArg (kindByte kind :: ·) (hnamed k)
      | closing day => rfl
      | nothing => rfl
    | cancelled plate => exact ⟨rfl, rfl⟩
    | unmatchedTare plate tare => exact ⟨rfl, rfl⟩
    | tipped lot => exact ⟨rfl, by simp only [OutItem.payload, hnamed, be_one]; simp [lotNamed]⟩
    | notTracked lot mass => exact ⟨rfl, by simp only [OutItem.payload, hnamed, be_one]; simp [lotNamed]⟩
    | monitor id active => exact ⟨rfl, by cases id <;> cases active <;> rfl⟩
    | noticeLost kind name =>
      refine ⟨rfl, ?_⟩
      simp only [OutItem.payload, be_one, hkind]
      cases name with
      | key k => exact congrArg (kindByte kind :: ·) (hnamed k)
      | closing day => rfl
      | nothing => rfl
    | dayChanged previous day => exact ⟨rfl, rfl⟩
    | consignmentRecord r =>
      refine ⟨rfl, fun hplate => ?_⟩
      have hpayload : (OutItem.consignmentRecord r).payload = r.pieces.flatten := r.payload_eq
      have hbytes {i off n : Nat} {part : List Byte} (h : r.pieces[i]? = some part)
          (hoff : (([4, 1, 1, 2, 2, 13, 7, 3, 1, 3, 3, 3, 3, 9, 2, 2] : List Nat).take i).sum = off)
          (hn : ([4, 1, 1, 2, 2, 13, 7, 3, 1, 3, 3, 3, 3, 9, 2, 2] : List Nat)[i]? = some n) :
          ((OutItem.consignmentRecord r).payload.drop off).take n = part := by
        rw [hpayload]
        exact slice_flatten (ConsRecord.pieces_length hplate) h hoff hn
      refine ⟨?_, hbytes (i := 0) (congrArg some (keyBytes_eq _)) rfl rfl, hbytes (i := 1) ?_ rfl rfl,
        hbytes (i := 2) rfl rfl rfl, hbytes (i := 3) rfl rfl rfl, hbytes (i := 4) rfl rfl rfl, hbytes (i := 5) rfl rfl rfl,
        hbytes (i := 6) ?_ rfl rfl, hbytes (i := 7) rfl rfl rfl, hbytes (i := 8) rfl rfl rfl, hbytes (i := 9) rfl rfl rfl,
        hbytes (i := 10) rfl rfl rfl, hbytes (i := 11) rfl rfl rfl, hbytes (i := 12) rfl rfl rfl,
        hbytes (i := 13) rfl rfl rfl, hbytes (i := 14) rfl rfl rfl, hbytes (i := 15) rfl rfl rfl⟩
      · rw [hpayload, List.length_flatten, ConsRecord.pieces_length hplate]
        rfl
      · cases hc : r.cause <;> simp [ConsRecord.pieces, hc, CloseCause.code, be_one]
      · cases hn : r.net with
        | none => simp [ConsRecord.pieces, hn]
        | some n => cases hb : n.basis <;> simp [ConsRecord.pieces, hn, hb, Basis.code, be_one]
    | dayRecord r =>
      have hpayload : (OutItem.dayRecord r).payload = r.pieces.flatten := r.payload_eq
      have hlengths := r.pieces_length
      have hbytes {i off n : Nat} {part : List Byte} (h : r.pieces[i]? = some part)
          (hoff : (([2, 2, 4, 4, 4] ++ if r.mill.isSome then [4, 4, 4, 4, 4, 4, 4, 4, 4, 4, 2, 2] else []).take i).sum =
            off)
          (hn : ([2, 2, 4, 4, 4] ++ if r.mill.isSome then [4, 4, 4, 4, 4, 4, 4, 4, 4, 4, 2, 2] else [])[i]? = some n) :
          ((OutItem.dayRecord r).payload.drop off).take n = part := by
        rw [hpayload]
        exact slice_flatten hlengths h hoff hn
      refine ⟨rfl, ?_, hbytes (i := 0) rfl rfl rfl, hbytes (i := 1) rfl rfl rfl, hbytes (i := 2) rfl rfl rfl,
        hbytes (i := 3) rfl rfl rfl, hbytes (i := 4) rfl rfl rfl, fun c hc => ?_⟩
      · rw [hpayload, List.length_flatten, hlengths]
        cases r.mill <;> rfl
      · obtain ⟨day, totals, mill⟩ := r
        obtain rfl : mill = some c := hc
        exact ⟨hbytes (i := 5) rfl rfl rfl, hbytes (i := 6) rfl rfl rfl, hbytes (i := 7) rfl rfl rfl,
          hbytes (i := 8) rfl rfl rfl, hbytes (i := 9) rfl rfl rfl, hbytes (i := 10) rfl rfl rfl,
          hbytes (i := 11) rfl rfl rfl, hbytes (i := 12) rfl rfl rfl, hbytes (i := 13) rfl rfl rfl,
          hbytes (i := 14) rfl rfl rfl, hbytes (i := 15) rfl rfl rfl, hbytes (i := 16) rfl rfl rfl⟩

end Sys2Proof.Machine
end

section
/-! PROOFS. Notices and beacons are read back from their payloads, and exactly the others are malformed (R21 to R33). -/

namespace Sys2Proof.Machine

/-! ### Pieces of a payload (R33, Table 2-1) -/

theorem field_flatten {parts : List (List Byte)} {lengths : List Nat} (hlengths : parts.map List.length = lengths)
    {i off n v : Nat} (h : parts[i]? = some (be n v)) (hoff : (lengths.take i).sum = off) (hn : lengths[i]? = some n)
    (hv : v < 256 ^ n) : field parts.flatten off n = v := by
  rw [field, slice_flatten hlengths h hoff hn, fromBe_be, Nat.mod_eq_of_lt hv]

theorem keyOk_iff (k : Key) :
    keyOk k = true ↔ 1 ≤ k.seq ∧ k.seq ≤ 4095 ∧ k.day ≤ 65535 ∧ (k.synthetic = true ∨ 1 ≤ k.day) := by
  simp [keyOk, Limits.sequence, and_assoc]

/-- A key in range is read back from its four bytes (R21). -/
theorem readKey_flatten {k : Key} (hk : keyOk k = true) (rest : List (List Byte)) {syn : Bool} (hsyn : k.synthetic = syn) :
    readKey (keyBytes k :: rest).flatten 0 syn = k := by
  obtain ⟨-, hseq, hday, -⟩ := (keyOk_iff k).1 hk
  have hsplit : (keyBytes k :: rest).flatten =
      [be 2 k.day, be 1 (k.seq / 256 * 16 + k.origin.val), be 1 (k.seq % 256), rest.flatten].flatten := by
    simp [keyBytes_eq, be_one]
  have hlengths : [be 2 k.day, be 1 (k.seq / 256 * 16 + k.origin.val), be 1 (k.seq % 256), rest.flatten].map List.length =
    [2, 1, 1, rest.flatten.length] := by simp [length_be]
  have horigin := k.origin.isLt
  have h0 := field_flatten hlengths (i := 0) (off := 0) (n := 2) rfl rfl rfl (by omega)
  have h2 := field_flatten hlengths (i := 1) (off := 2) (n := 1) rfl rfl rfl (by omega)
  have h3 := field_flatten hlengths (i := 2) (off := 3) (n := 1) rfl rfl rfl (by omega)
  have hread : Fin.ofNat 16 ((k.seq / 256 * 16 + k.origin.val) % 16) = k.origin := by
    refine Fin.ext ?_
    simp only [Fin.ofNat]
    omega
  have hsum : (k.seq / 256 * 16 + k.origin.val) / 16 * 256 + k.seq % 256 = k.seq := by omega
  rw [hsplit, readKey, h0, h2, h3, hread, hsum, ← hsyn]

/-- The bits of the lot flags (Table 2-3). -/
def LotFlags.bit (f : LotFlags) (i : Fin 9) : Bool :=
  [f.synthetic, f.grossUnknown, f.lateEntry, f.positionSuspect, f.netCorrected, f.overCredited, f.estimated, f.ageSaturated,
    f.notTracked][i]

theorem LotFlags.toNat_eq_ofBits (f : LotFlags) : f.toNat = Nat.ofBits f.bit := by
  simp only [Nat.ofBits_succ, Nat.ofBits_zero, LotFlags.toNat, flagBit_eq]
  simp [LotFlags.bit]
  ring

theorem LotFlags.ofNat_toNat (f : LotFlags) : LotFlags.ofNat f.toNat = f := by
  have hbit (i : Fin 9) : bitOf i f.toNat = f.bit i := by
    rw [bitOf_eq_testBit, toNat_eq_ofBits, Nat.testBit_ofBits_lt _ _ i.isLt]
  obtain ⟨a, b, c, d, e, g, h, i, j⟩ := f
  simp only [LotFlags.ofNat, LotFlags.mk.injEq]
  exact ⟨hbit 0, hbit 1, hbit 2, hbit 3, hbit 4, hbit 5, hbit 6, hbit 7, hbit 8⟩

theorem LotFlags.toNat_lt (f : LotFlags) : f.toNat < 512 := by
  rw [toNat_eq_ofBits]
  exact Nat.ofBits_lt_two_pow _

theorem readGross_payload {source : StationNo} {n : GrossNotice} (h : noticeOk source (.gross n) = true) :
    readGross source (Notice.gross n).payload = some n := by
  simp only [noticeOk, Bool.and_eq_true, Bool.not_eq_true', beq_iff_eq, decide_eq_true_eq, within_iff] at h
  obtain ⟨⟨⟨⟨⟨hkey, hsyn⟩, horigin⟩, hplate⟩, hgrower⟩, hgross⟩ := h
  have hlength : n.plate.length = 8 := by simp [plateOk] at hplate; exact hplate.1
  have hpayload : (Notice.gross n).payload = [keyBytes n.key, n.plate, be 2 n.grower, be 3 n.gross].flatten := by
    simp [Notice.payload]
  have hlengths : [keyBytes n.key, n.plate, be 2 n.grower, be 3 n.gross].map List.length = [4, 8, 2, 3] := by
    simp [keyBytes, length_be, hlength]
  have hread : readKey (Notice.gross n).payload 0 false = n.key := hpayload ▸ readKey_flatten hkey _ hsyn
  have hp : ((Notice.gross n).payload.drop 4).take 8 = n.plate := hpayload ▸ slice_flatten hlengths (i := 1) rfl rfl rfl
  have h12 : field (Notice.gross n).payload 12 2 = n.grower := hpayload ▸ field_flatten hlengths (i := 2) rfl rfl rfl (by omega)
  have h14 : field (Notice.gross n).payload 14 3 = n.gross := hpayload ▸ field_flatten hlengths (i := 3) rfl rfl rfl (by omega)
  have hcount : (Notice.gross n).payload.length = 17 := by rw [hpayload, List.length_flatten, hlengths]; rfl
  unfold readGross
  rw [hread, hp, h12, h14]
  exact if_pos ⟨hcount, hkey, horigin, hplate, by dsimp only; omega, hgross⟩

theorem basisOfCode_code (b : Basis) : basisOfCode b.code = some b := by cases b <;> rfl

theorem lotCauseOfCode_code (c : LotCause) : lotCauseOfCode c.code = some c := by cases c <;> rfl

theorem Basis.code_lt (b : Basis) : b.code < 256 := by cases b <;> decide

theorem LotCause.code_lt (c : LotCause) : c.code < 256 := by cases c <;> decide

theorem bitOf_flagBit (b : Bool) : bitOf 0 (flagBit 0 b) = b := by cases b <;> rfl

theorem readNet_payload {source : StationNo} {n : NetNotice} (h : noticeOk source (.net n) = true) :
    readNet (Notice.net n).payload = some n := by
  simp only [noticeOk, Bool.and_eq_true, Bool.not_eq_true', beq_iff_eq, decide_eq_true_eq, within_iff] at h
  obtain ⟨⟨⟨⟨⟨⟨⟨hkey, hsyn⟩, hplate⟩, hgrower⟩, hgross⟩, htare⟩, hnet⟩, hexceeds⟩ := h
  have hlength : n.plate.length = 8 := by simp [plateOk] at hplate; exact hplate.1
  have hbasis := n.basis.code_lt
  have hflag : flagBit 0 n.tareExceeds < 256 := by cases n.tareExceeds <;> decide
  have hpayload : (Notice.net n).payload = [keyBytes n.key, n.plate, be 2 n.grower, be 3 n.gross, be 3 n.tare, be 3 n.net,
      be 1 n.basis.code, be 1 (flagBit 0 n.tareExceeds)].flatten := by simp [Notice.payload]
  have hlengths : [keyBytes n.key, n.plate, be 2 n.grower, be 3 n.gross, be 3 n.tare, be 3 n.net, be 1 n.basis.code,
      be 1 (flagBit 0 n.tareExceeds)].map List.length = [4, 8, 2, 3, 3, 3, 1, 1] := by simp [keyBytes, length_be, hlength]
  have hread : readKey (Notice.net n).payload 0 false = n.key := hpayload ▸ readKey_flatten hkey _ hsyn
  have hp : ((Notice.net n).payload.drop 4).take 8 = n.plate := hpayload ▸ slice_flatten hlengths (i := 1) rfl rfl rfl
  have h12 : field (Notice.net n).payload 12 2 = n.grower := hpayload ▸ field_flatten hlengths (i := 2) rfl rfl rfl (by omega)
  have h14 : field (Notice.net n).payload 14 3 = n.gross := hpayload ▸ field_flatten hlengths (i := 3) rfl rfl rfl (by omega)
  have h17 : field (Notice.net n).payload 17 3 = n.tare := hpayload ▸ field_flatten hlengths (i := 4) rfl rfl rfl (by omega)
  have h20 : field (Notice.net n).payload 20 3 = n.net := hpayload ▸ field_flatten hlengths (i := 5) rfl rfl rfl (by omega)
  have h23 : field (Notice.net n).payload 23 1 = n.basis.code :=
    hpayload ▸ field_flatten hlengths (i := 6) rfl rfl rfl (by omega)
  have h24 : field (Notice.net n).payload 24 1 = flagBit 0 n.tareExceeds :=
    hpayload ▸ field_flatten hlengths (i := 7) rfl rfl rfl (by omega)
  have hcount : (Notice.net n).payload.length = 25 := by rw [hpayload, List.length_flatten, hlengths]; rfl
  unfold readNet
  rw [h23, basisOfCode_code, hread, hp, h12, h14, h17, h20, h24, bitOf_flagBit]
  exact if_pos ⟨hcount, hkey, hplate, by dsimp only; omega, hgross, htare, hnet, hexceeds⟩

theorem LotKey.ok_iff (l : LotKey) : l.ok = true ↔ keyOk l.key = true ∧ 1 ≤ l.k ∧ l.k ≤ l.m ∧ l.m ≤ 3 := by
  simp [LotKey.ok, and_assoc]

theorem readTip_payload {source : StationNo} {n : TipNotice} (h : noticeOk source (.tip n) = true) :
    readTip (Notice.tip n).payload = some n := by
  simp only [noticeOk, Bool.and_eq_true, beq_iff_eq, decide_eq_true_eq, within_iff] at h
  obtain ⟨⟨⟨⟨⟨⟨hlot, hsyn⟩, hmass⟩, hstart⟩, hend⟩, hdistance⟩, hattempt⟩ := h
  obtain ⟨hkey, hk, hkm, hm⟩ := n.lot.ok_iff.1 hlot
  have hflags := n.flags.toNat_lt
  have hpayload : (Notice.tip n).payload = [keyBytes n.lot.key, be 1 n.lot.k, be 1 n.lot.m, be 3 n.mass, be 2 n.ageStart,
      be 2 n.ageEnd, be 2 n.distance, be 2 n.flags.toNat, be 1 n.attempt].flatten := by simp [Notice.payload]
  have hlengths : [keyBytes n.lot.key, be 1 n.lot.k, be 1 n.lot.m, be 3 n.mass, be 2 n.ageStart, be 2 n.ageEnd,
      be 2 n.distance, be 2 n.flags.toNat, be 1 n.attempt].map List.length = [4, 1, 1, 3, 2, 2, 2, 2, 1] := by
    simp [keyBytes, length_be]
  have hread : readKey (Notice.tip n).payload 0 n.flags.synthetic = n.lot.key :=
    hpayload ▸ readKey_flatten hkey _ hsyn
  have h4 : field (Notice.tip n).payload 4 1 = n.lot.k := hpayload ▸ field_flatten hlengths (i := 1) rfl rfl rfl (by omega)
  have h5 : field (Notice.tip n).payload 5 1 = n.lot.m := hpayload ▸ field_flatten hlengths (i := 2) rfl rfl rfl (by omega)
  have h6 : field (Notice.tip n).payload 6 3 = n.mass := hpayload ▸ field_flatten hlengths (i := 3) rfl rfl rfl (by omega)
  have h9 : field (Notice.tip n).payload 9 2 = n.ageStart := hpayload ▸ field_flatten hlengths (i := 4) rfl rfl rfl (by omega)
  have h11 : field (Notice.tip n).payload 11 2 = n.ageEnd := hpayload ▸ field_flatten hlengths (i := 5) rfl rfl rfl (by omega)
  have h13 : field (Notice.tip n).payload 13 2 = n.distance :=
    hpayload ▸ field_flatten hlengths (i := 6) rfl rfl rfl (by omega)
  have h15 : field (Notice.tip n).payload 15 2 = n.flags.toNat :=
    hpayload ▸ field_flatten hlengths (i := 7) rfl rfl rfl (by omega)
  have h17 : field (Notice.tip n).payload 17 1 = n.attempt :=
    hpayload ▸ field_flatten hlengths (i := 8) rfl rfl rfl (by omega)
  have hcount : (Notice.tip n).payload.length = 18 := by rw [hpayload, List.length_flatten, hlengths]; rfl
  simp only [readTip]
  rw [h15, LotFlags.ofNat_toNat, hread, h4, h5, h6, h9, h11, h13, h17]
  exact if_pos ⟨hcount, hlot, by omega, by omega, hend⟩

theorem readLotCrushed_payload {source : StationNo} {n : LotCrushedNotice} (h : noticeOk source (.lotCrushed n) = true) :
    readLotCrushed (Notice.lotCrushed n).payload = some n := by
  simp only [noticeOk, Bool.and_eq_true, Bool.or_eq_true, beq_iff_eq, decide_eq_true_eq] at h
  obtain ⟨⟨⟨⟨⟨⟨hlot, hsyn⟩, hcrushed⟩, hmeasured⟩, hestimated⟩, hshares⟩, hcause⟩ := h
  obtain ⟨hkey, hk, hkm, hm⟩ := n.lot.ok_iff.1 hlot
  have hflags := n.flags.toNat_lt
  have hcode := n.cause.code_lt
  have hpayload : (Notice.lotCrushed n).payload = [keyBytes n.lot.key, be 1 n.lot.k, be 1 n.lot.m, be 3 n.crushed,
      be 3 n.creditedMeasured, be 3 n.creditedEstimated, be 2 n.flags.toNat, be 1 n.cause.code, be 2 n.shareCount].flatten := by
    simp [Notice.payload]
  have hlengths : [keyBytes n.lot.key, be 1 n.lot.k, be 1 n.lot.m, be 3 n.crushed, be 3 n.creditedMeasured,
      be 3 n.creditedEstimated, be 2 n.flags.toNat, be 1 n.cause.code, be 2 n.shareCount].map List.length =
      [4, 1, 1, 3, 3, 3, 2, 1, 2] := by
    simp [keyBytes, length_be]
  have hread : readKey (Notice.lotCrushed n).payload 0 n.flags.synthetic = n.lot.key :=
    hpayload ▸ readKey_flatten hkey _ hsyn
  have h4 : field (Notice.lotCrushed n).payload 4 1 = n.lot.k :=
    hpayload ▸ field_flatten hlengths (i := 1) rfl rfl rfl (by omega)
  have h5 : field (Notice.lotCrushed n).payload 5 1 = n.lot.m :=
    hpayload ▸ field_flatten hlengths (i := 2) rfl rfl rfl (by omega)
  have h6 : field (Notice.lotCrushed n).payload 6 3 = n.crushed :=
    hpayload ▸ field_flatten hlengths (i := 3) rfl rfl rfl (by omega)
  have h9 : field (Notice.lotCrushed n).payload 9 3 = n.creditedMeasured :=
    hpayload ▸ field_flatten hlengths (i := 4) rfl rfl rfl (by omega)
  have h12 : field (Notice.lotCrushed n).payload 12 3 = n.creditedEstimated :=
    hpayload ▸ field_flatten hlengths (i := 5) rfl rfl rfl (by omega)
  have h15 : field (Notice.lotCrushed n).payload 15 2 = n.flags.toNat :=
    hpayload ▸ field_flatten hlengths (i := 6) rfl rfl rfl (by omega)
  have h17 : field (Notice.lotCrushed n).payload 17 1 = n.cause.code :=
    hpayload ▸ field_flatten hlengths (i := 7) rfl rfl rfl (by omega)
  have h18 : field (Notice.lotCrushed n).payload 18 2 = n.shareCount :=
    hpayload ▸ field_flatten hlengths (i := 8) rfl rfl rfl (by omega)
  have hcount : (Notice.lotCrushed n).payload.length = 20 := by rw [hpayload, List.length_flatten, hlengths]; rfl
  unfold readLotCrushed
  rw [h17, lotCauseOfCode_code]
  simp only
  rw [h15, LotFlags.ofNat_toNat, hread, h4, h5, h6, h9, h12, h18]
  refine if_pos ⟨hcount, hlot, fun hnot => ?_⟩
  obtain hcrushed | ⟨⟨⟨⟨hcr, hme⟩, hes⟩, hsh⟩, hflag⟩ := hcause
  · exact absurd (hcrushed.symm.trans hnot) (by decide)
  · exact ⟨hcr, hme, hes, hsh, hflag⟩

theorem readDayEnd_payload {source : StationNo} {n : DayEndNotice} (h : noticeOk source (.dayEnd n) = true) :
    readDayEnd (Notice.dayEnd n).payload = some n := by
  simp only [noticeOk, Bool.and_eq_true, beq_iff_eq, within_iff] at h
  obtain ⟨hclosing, hnew⟩ := h
  have hbound : n.newDay < 65536 := by rw [hnew, nextDay]; split <;> omega
  have hpayload : (Notice.dayEnd n).payload = [be 2 n.closing, be 2 n.newDay].flatten := by simp [Notice.payload]
  have hlengths : [be 2 n.closing, be 2 n.newDay].map List.length = [2, 2] := by simp [length_be]
  have h0 : field (Notice.dayEnd n).payload 0 2 = n.closing := hpayload ▸ field_flatten hlengths (i := 0) rfl rfl rfl (by omega)
  have h2 : field (Notice.dayEnd n).payload 2 2 = n.newDay := hpayload ▸ field_flatten hlengths (i := 1) rfl rfl rfl (by omega)
  have hcount : (Notice.dayEnd n).payload.length = 4 := by rw [hpayload, List.length_flatten, hlengths]; rfl
  unfold readDayEnd
  rw [h0, h2]
  exact if_pos ⟨hcount, by dsimp only; omega, hnew⟩

/-- The ten mass counters of a DAY-SUMMARY in the order of Table 2-2. -/
def MillCounters.words (c : MillCounters) : List (BitVec 32) :=
  [c.entered, c.carriedIn, c.corrections, c.crushed, c.onCarrier, c.writtenOff, c.measured, c.creditedMeasured,
    c.creditedEstimated, c.unallocated]

theorem readMillCounters_eq {p : List Byte} {c : MillCounters}
    (hwords : ∀ i w, c.words[i]? = some w → BitVec.ofNat 32 (field p (2 + 4 * i) 4) = w)
    (hperiods : field p 42 2 = c.periods) (hforced : field p 44 2 = c.forced) : readMillCounters p = c := by
  cases c
  rw [readMillCounters, MillCounters.mk.injEq]
  exact ⟨hwords 0 _ rfl, hwords 1 _ rfl, hwords 2 _ rfl, hwords 3 _ rfl, hwords 4 _ rfl, hwords 5 _ rfl, hwords 6 _ rfl,
    hwords 7 _ rfl, hwords 8 _ rfl, hwords 9 _ rfl, hperiods, hforced⟩

theorem readDaySummary_payload {source : StationNo} {n : DaySummary} (h : noticeOk source (.daySummary n) = true) :
    readDaySummary (Notice.daySummary n).payload = some n := by
  simp only [noticeOk, Bool.and_eq_true, decide_eq_true_eq, within_iff] at h
  obtain ⟨⟨hday, hperiods⟩, hforced⟩ := h
  have hpayload : (Notice.daySummary n).payload =
      (be 2 n.day :: n.counters.words.map (fun w => be 4 w.toNat) ++ [be 2 n.counters.periods, be 2 n.counters.forced]).flatten := by
    simp [Notice.payload, MillCounters.bytes, MillCounters.words]
  have hlengths : (be 2 n.day :: n.counters.words.map (fun w => be 4 w.toNat) ++
      [be 2 n.counters.periods, be 2 n.counters.forced]).map List.length = [2, 4, 4, 4, 4, 4, 4, 4, 4, 4, 4, 2, 2] := by
    simp [MillCounters.words, length_be]
  have hcount : (Notice.daySummary n).payload.length = 46 := by rw [hpayload, List.length_flatten, hlengths]; rfl
  have h0 : field (Notice.daySummary n).payload 0 2 = n.day :=
    hpayload ▸ field_flatten hlengths (i := 0) rfl rfl rfl (by omega)
  have hword (i : Nat) (w : BitVec 32) (hw : n.counters.words[i]? = some w) :
      BitVec.ofNat 32 (field (Notice.daySummary n).payload (2 + 4 * i) 4) = w := by
    have hi : i < 10 := (List.getElem?_eq_some_iff.1 hw).1
    have hpart : (be 2 n.day :: n.counters.words.map (fun w => be 4 w.toNat) ++
        [be 2 n.counters.periods, be 2 n.counters.forced])[i + 1]? = some (be 4 w.toNat) := by
      rw [List.cons_append, List.getElem?_cons_succ, List.getElem?_append_left (by simpa [MillCounters.words] using hi),
        List.getElem?_map, hw]
      rfl
    have hfield := field_flatten hlengths (i := i + 1) (off := 2 + 4 * i) (n := 4) hpart
      (by interval_cases i <;> rfl) (by interval_cases i <;> rfl) w.isLt
    rw [hpayload, hfield, BitVec.ofNat_toNat, BitVec.setWidth_eq]
  have hcounters : readMillCounters (Notice.daySummary n).payload = n.counters :=
    readMillCounters_eq hword (hpayload ▸ field_flatten hlengths (i := 11) rfl rfl rfl (by omega))
      (hpayload ▸ field_flatten hlengths (i := 12) rfl rfl rfl (by omega))
  unfold readDaySummary
  rw [h0, hcounters]
  exact if_pos ⟨hcount, by dsimp only; omega⟩

theorem readBeacon_payload {b : Beacon} (hday : b.day ≤ 65535) (hdepth : b.queueDepth ≤ 8) (hspeed : b.speed ≤ 4095) :
    readBeacon b.payload = some b := by
  have hstate : (if b.config then 1 else 2) < 256 := by split <;> decide
  have hflags : flagBit 0 b.started + flagBit 1 b.debtSaturated < 256 := by
    cases b.started <;> cases b.debtSaturated <;> decide
  have hsummary := b.summary.isLt
  have hpayload : b.payload = [be 1 (if b.config then 1 else 2), be 1 (flagBit 0 b.started + flagBit 1 b.debtSaturated),
      be 2 b.day, be 2 b.summary.toNat, be 1 b.queueDepth, be 2 b.speed].flatten := by simp [Beacon.payload]
  have hlengths : [be 1 (if b.config then 1 else 2), be 1 (flagBit 0 b.started + flagBit 1 b.debtSaturated),
      be 2 b.day, be 2 b.summary.toNat, be 1 b.queueDepth, be 2 b.speed].map List.length = [1, 1, 2, 2, 1, 2] := by
    simp [length_be]
  have h0 : field b.payload 0 1 = if b.config then 1 else 2 := hpayload ▸ field_flatten hlengths (i := 0) rfl rfl rfl hstate
  have h1 : field b.payload 1 1 = flagBit 0 b.started + flagBit 1 b.debtSaturated :=
    hpayload ▸ field_flatten hlengths (i := 1) rfl rfl rfl hflags
  have h2 : field b.payload 2 2 = b.day := hpayload ▸ field_flatten hlengths (i := 2) rfl rfl rfl (by omega)
  have h4 : field b.payload 4 2 = b.summary.toNat := hpayload ▸ field_flatten hlengths (i := 3) rfl rfl rfl (by omega)
  have h6 : field b.payload 6 1 = b.queueDepth := hpayload ▸ field_flatten hlengths (i := 4) rfl rfl rfl (by omega)
  have h7 : field b.payload 7 2 = b.speed := hpayload ▸ field_flatten hlengths (i := 5) rfl rfl rfl (by omega)
  have hcount : b.payload.length = 9 := by rw [hpayload, List.length_flatten, hlengths]; rfl
  have hconfig : ((if b.config then 1 else 2 : Nat) == 1) = b.config := by cases b.config <;> rfl
  have hstarted : bitOf 0 (flagBit 0 b.started + flagBit 1 b.debtSaturated) = b.started := by
    cases b.started <;> cases b.debtSaturated <;> rfl
  have hdebt : bitOf 1 (flagBit 0 b.started + flagBit 1 b.debtSaturated) = b.debtSaturated := by
    cases b.started <;> cases b.debtSaturated <;> rfl
  simp only [readBeacon]
  rw [h0, h1, h2, h4, h6, h7, hconfig, hstarted, hdebt, BitVec.ofNat_toNat, BitVec.setWidth_eq]
  exact if_pos ⟨hcount, by cases b.config <;> simp, hdepth, hspeed⟩

/-! ### What is malformed (R25 to R32) -/

theorem readNotice_eq_none_iff {kind : Nat} {source : StationNo} {sender : Role} {p : List Byte} :
    readNotice kind source sender p = none ↔
      (match kind with
        | 1 => readBeacon p = none
        | 2 => sender ≠ .entry ∨ readGross source p = none
        | 3 => sender ≠ .exit ∨ readNet p = none
        | 4 => sender ≠ .tip ∨ readTip p = none
        | 5 => sender ≠ .mill ∨ readLotCrushed p = none
        | 6 => sender ≠ .lab ∨ readDayEnd p = none
        | 7 => sender ≠ .mill ∨ readDaySummary p = none
        | _ => True) := by
  have hgate (role : Role) (P : Prop) (x : Option Received) (hx : x = none ↔ P) :
      (if (some role).any (· ≠ sender) then none else x) = none ↔ sender ≠ role ∨ P := by
    by_cases hs : sender = role
    · simp [hs, hx]
    · simp [hs, Ne.symm hs]
  match kind with
  | 0 => simp [readNotice, sendingRole]
  | 1 => simp [readNotice, sendingRole]
  | 2 => exact hgate _ _ _ (by simp)
  | 3 => exact hgate _ _ _ (by simp)
  | 4 => exact hgate _ _ _ (by simp)
  | 5 => exact hgate _ _ _ (by simp)
  | 6 => exact hgate _ _ _ (by simp)
  | 7 => exact hgate _ _ _ (by simp)
  | n + 8 => simp [readNotice, sendingRole]

theorem if_some_eq_none_iff {α : Type} {P : Prop} [Decidable P] {x : α} : (if P then some x else none) = none ↔ ¬ P := by
  split
  next h => exact iff_of_false (Option.some_ne_none x) (not_not_intro h)
  next h => exact iff_of_true rfl h

/-- The eight bytes of a plate in a payload long enough are in range exactly when each is a plate character (R33). -/
theorem plateOk_field_iff {p : List Byte} (hp : 12 ≤ p.length) :
    plateOk ((p.drop 4).take 8) = true ↔ ¬ ∃ b ∈ (p.drop 4).take 8,
      ¬(0x41 ≤ b.toNat ∧ b.toNat ≤ 0x5A ∨ 0x30 ≤ b.toNat ∧ b.toNat ≤ 0x39 ∨ b.toNat = 0x20) := by
  have hlength : ((p.drop 4).take 8).length = 8 := by simp; omega
  have hchar (b : Byte) : plateChar b = true ↔
      0x41 ≤ b.toNat ∧ b.toNat ≤ 0x5A ∨ 0x30 ≤ b.toNat ∧ b.toNat ≤ 0x39 ∨ b.toNat = 0x20 := by
    simp [plateChar, or_assoc]
  simp only [plateOk, hlength, beq_self_eq_true, Bool.true_and, List.all_eq_true, hchar, not_exists, not_and, not_not]

/-- The key of the first four bytes is in range exactly when its sequence is not 0, nor its day unless it is synthetic (R21). -/
theorem keyOk_readKey_iff (p : List Byte) (syn : Bool) : keyOk (readKey p 0 syn) = true ↔
    ¬((field p 0 2 = 0 ∧ syn = false) ∨ field p 2 1 / 16 * 256 + field p 3 1 = 0) := by
  have hday := field_lt p 0 2
  have hhigh := field_lt p 2 1
  have hlow := field_lt p 3 1
  rw [keyOk_iff]
  simp only [readKey, Nat.zero_add]
  cases syn <;> simp only [true_or, Bool.false_eq_true, false_or, reduceCtorEq, and_false, and_true] <;> omega

theorem readDaySummary_none_iff (p : List Byte) : readDaySummary p = none ↔ p.length ≠ 46 ∨ field p 0 2 = 0 := by
  unfold readDaySummary
  rw [if_some_eq_none_iff]
  dsimp only
  omega

theorem readDayEnd_none_iff (p : List Byte) : readDayEnd p = none ↔ p.length ≠ 4 ∨ field p 0 2 = 0 ∨
    field p 2 2 ≠ (if field p 0 2 = 65535 then 1 else field p 0 2 + 1) := by
  unfold readDayEnd
  rw [if_some_eq_none_iff]
  dsimp only [nextDay]
  omega

theorem readBeacon_none_iff (p : List Byte) : readBeacon p = none ↔
    p.length ≠ 9 ∨ (field p 0 1 ≠ 1 ∧ field p 0 1 ≠ 2) ∨ 8 < field p 6 1 ∨ 4095 < field p 7 2 := by
  unfold readBeacon
  rw [if_some_eq_none_iff]
  dsimp only [Limits.stopped]
  omega

/-- The fields that a GROSS and a NET share, out of range (R26, R27). -/
def WeighedWrong (p : List Byte) : Prop :=
  field p 0 2 = 0 ∨ field p 2 1 / 16 * 256 + field p 3 1 = 0 ∨
    (∃ b ∈ (p.drop 4).take 8,
      ¬(0x41 ≤ b.toNat ∧ b.toNat ≤ 0x5A ∨ 0x30 ≤ b.toNat ∧ b.toNat ≤ 0x39 ∨ b.toNat = 0x20)) ∨
    field p 12 2 = 0 ∨ 120000 < field p 14 3

theorem not_weighedWrong_iff {p : List Byte} (hp : 12 ≤ p.length) : ¬ WeighedWrong p ↔
    keyOk (readKey p 0 false) = true ∧ plateOk ((p.drop 4).take 8) = true ∧ field p 12 2 ≠ 0 ∧ field p 14 3 ≤ Limits.weighing := by
  rw [keyOk_readKey_iff, plateOk_field_iff hp]
  simp only [WeighedWrong, Limits.weighing, and_true, not_or, Nat.not_lt, and_assoc]

theorem readGross_none_iff (source : StationNo) (p : List Byte) : readGross source p = none ↔
    p.length ≠ 17 ∨ field p 2 1 % 16 ≠ source.val ∨ WeighedWrong p := by
  have horigin : (readKey p 0 false).origin = source ↔ field p 2 1 % 16 = source.val := by
    rw [readKey, Fin.ext_iff]
    simp [Fin.ofNat]
  unfold readGross
  rw [if_some_eq_none_iff]
  dsimp only
  rw [horigin]
  by_cases hp : p.length = 17
  · have hweighed := not_weighedWrong_iff (p := p) (by omega)
    tauto
  · exact iff_of_true (fun h => hp h.1) (Or.inl hp)

/-- The lot key of a TIP or a LOT-CRUSHED, out of range (R22, R28). -/
def LotWrong (p : List Byte) : Prop :=
  (field p 0 2 = 0 ∧ ¬ field p 15 2 / 2 ^ 0 % 2 = 1) ∨ field p 2 1 / 16 * 256 + field p 3 1 = 0 ∨ field p 4 1 = 0 ∨
    field p 5 1 < field p 4 1 ∨ 3 < field p 5 1

theorem bitOf_iff (i v : Nat) : bitOf i v = true ↔ v / 2 ^ i % 2 = 1 := by simp [bitOf]

theorem not_lotWrong_iff (p : List Byte) : ¬ LotWrong p ↔
    LotKey.ok ⟨readKey p 0 (LotFlags.ofNat (field p 15 2)).synthetic, field p 4 1, field p 5 1⟩ = true := by
  have hsyn : (LotFlags.ofNat (field p 15 2)).synthetic = false ↔ ¬ field p 15 2 / 2 ^ 0 % 2 = 1 := by
    rw [← bitOf_iff, Bool.not_eq_true]
    rfl
  rw [LotKey.ok_iff, keyOk_readKey_iff, hsyn]
  unfold LotWrong
  dsimp only
  omega

theorem readTip_none_iff (p : List Byte) : readTip p = none ↔
    p.length ≠ 18 ∨ LotWrong p ∨ field p 13 2 = 0 ∨ field p 17 1 = 0 ∨ field p 9 2 < field p 11 2 := by
  have hlot := not_lotWrong_iff p
  unfold readTip
  rw [if_some_eq_none_iff]
  dsimp only
  rw [← hlot, ← Nat.not_lt]
  tauto

theorem basisOfCode_cases (v : Nat) : ((1 ≤ v ∧ v ≤ 3) ∧ ∃ b, basisOfCode v = some b) ∨ (¬(1 ≤ v ∧ v ≤ 3) ∧ basisOfCode v = none) := by
  by_cases hv : 1 ≤ v ∧ v ≤ 3
  · obtain rfl | rfl | rfl : v = 1 ∨ v = 2 ∨ v = 3 := by omega
    all_goals exact Or.inl ⟨hv, _, rfl⟩
  · refine Or.inr ⟨hv, ?_⟩
    match v with
    | 0 | _ + 4 => rfl
    | 1 | 2 | 3 => exact absurd (by decide) hv

theorem readNet_none_iff (p : List Byte) : readNet p = none ↔
    p.length ≠ 25 ∨ WeighedWrong p ∨ 120000 < field p 17 3 ∨ ¬(1 ≤ field p 23 1 ∧ field p 23 1 ≤ 3) ∨
      ¬(if field p 14 3 < field p 17 3 then field p 20 3 = 0 ∧ field p 24 1 % 2 = 1
        else field p 20 3 = field p 14 3 - field p 17 3 ∧ field p 24 1 % 2 = 0) := by
  have hflag : (bitOf 0 (field p 24 1) = decide (field p 14 3 < field p 17 3)) ↔
      (field p 24 1 % 2 = 1 ↔ field p 14 3 < field p 17 3) := by
    rw [Bool.eq_iff_iff, bitOf_iff, decide_eq_true_eq, Nat.pow_zero, Nat.div_one]
  have hagree : (field p 20 3 = netOf (field p 14 3) (field p 17 3) ∧
        bitOf 0 (field p 24 1) = decide (field p 14 3 < field p 17 3)) ↔
      (if field p 14 3 < field p 17 3 then field p 20 3 = 0 ∧ field p 24 1 % 2 = 1
        else field p 20 3 = field p 14 3 - field p 17 3 ∧ field p 24 1 % 2 = 0) := by
    rw [hflag, netOf]
    split <;> omega
  obtain ⟨hcode, basis, hbasis⟩ | ⟨hcode, hbasis⟩ := basisOfCode_cases (field p 23 1)
  · unfold readNet
    rw [hbasis]
    dsimp only
    rw [if_some_eq_none_iff, ← hagree]
    by_cases hp : p.length = 25
    · have hweighed := not_weighedWrong_iff (p := p) (by omega)
      have htare : field p 17 3 ≤ Limits.weighing ↔ ¬ 120000 < field p 17 3 := by simp [Limits.weighing]
      rw [htare]
      by_cases hwrong : WeighedWrong p
      · exact iff_of_true (fun ⟨_, hkey, hplate, hgrower, hgross, _⟩ => hweighed.2 ⟨hkey, hplate, hgrower, hgross⟩ hwrong)
          (Or.inr (Or.inl hwrong))
      · obtain ⟨hkey, hplate, hgrower, hgross⟩ := hweighed.1 hwrong
        simp only [hp, hkey, hplate, hgrower, hgross, hwrong, hcode, true_and, not_true_eq_false, false_or, ne_eq, not_false_eq_true,
          and_self]
        exact not_and_or.trans (or_congr_left not_not)
    · exact iff_of_true (fun h => hp h.1) (Or.inl hp)
  · unfold readNet
    rw [hbasis]
    exact iff_of_true rfl (Or.inr (Or.inr (Or.inr (Or.inl hcode))))

theorem lotCauseOfCode_cases (v : Nat) : (v = 1 ∧ lotCauseOfCode v = some .crushed) ∨
    (v = 2 ∧ lotCauseOfCode v = some .notTracked) ∨ ((v ≠ 1 ∧ v ≠ 2) ∧ lotCauseOfCode v = none) := by
  match v with
  | 1 => exact Or.inl ⟨rfl, rfl⟩
  | 2 => exact Or.inr (Or.inl ⟨rfl, rfl⟩)
  | 0 | _ + 3 => exact Or.inr (Or.inr ⟨by omega, rfl⟩)

theorem readLotCrushed_none_iff (p : List Byte) : readLotCrushed p = none ↔
    p.length ≠ 20 ∨ LotWrong p ∨ (field p 17 1 ≠ 1 ∧ field p 17 1 ≠ 2) ∨
      (field p 17 1 = 2 ∧ (field p 6 3 ≠ 0 ∨ field p 9 3 ≠ 0 ∨ field p 12 3 ≠ 0 ∨ field p 18 2 ≠ 0 ∨
        ¬ field p 15 2 / 2 ^ 8 % 2 = 1)) := by
  have hlot := not_lotWrong_iff p
  have hflag : (LotFlags.ofNat (field p 15 2)).notTracked = true ↔ field p 15 2 / 2 ^ 8 % 2 = 1 := bitOf_iff 8 _
  unfold readLotCrushed
  obtain ⟨hcode, hcause⟩ | ⟨hcode, hcause⟩ | ⟨hcode, hcause⟩ := lotCauseOfCode_cases (field p 17 1)
  · rw [hcause]
    dsimp only
    rw [if_some_eq_none_iff, ← hlot]
    simp only [reduceCtorEq, false_implies, and_true, hcode]
    tauto
  · rw [hcause]
    dsimp only
    rw [if_some_eq_none_iff, ← hlot, hflag]
    simp only [true_implies, hcode]
    tauto
  · rw [hcause]
    exact iff_of_true rfl (Or.inr (Or.inr (Or.inl hcode)))

/-! ### The statement -/

theorem readNotice_payload {source : StationNo} {sender : Role} {n : Notice} (h : noticeOk source n = true)
    (hsender : sendingRole n.kind.code = some sender) :
    readNotice n.kind.code source sender n.payload = some (.notice n) := by
  have hpass : (sendingRole n.kind.code).any (· ≠ sender) = false := by simp [hsender]
  unfold readNotice
  rw [hpass]
  cases n with
  | gross n => exact congrArg (Option.map fun n => Received.notice (.gross n)) (readGross_payload h)
  | net n => exact congrArg (Option.map fun n => Received.notice (.net n)) (readNet_payload h)
  | tip n => exact congrArg (Option.map fun n => Received.notice (.tip n)) (readTip_payload h)
  | lotCrushed n => exact congrArg (Option.map fun n => Received.notice (.lotCrushed n)) (readLotCrushed_payload h)
  | dayEnd n => exact congrArg (Option.map fun n => Received.notice (.dayEnd n)) (readDayEnd_payload h)
  | daySummary n => exact congrArg (Option.map fun n => Received.notice (.daySummary n)) (readDaySummary_payload h)

/-- Settles O58: a payload is the flat list of its pieces, so each field reads back the value of its piece; and each reader
answers none exactly when one of the conditions it tests fails. -/
theorem noticesReadBackAsSent : Obligations.NoticesReadBackAsSent := by
  unfold Obligations.NoticesReadBackAsSent
  refine ⟨fun source sender n h hsender => readNotice_payload h hsender, fun source sender b hday hdepth hspeed => ?_, ?_⟩
  · have hpass : (sendingRole 1).any (· ≠ sender) = false := rfl
    unfold readNotice
    rw [hpass]
    exact congrArg (Option.map Received.beacon) (readBeacon_payload hday hdepth hspeed)
  · intro kind source sender p
    refine readNotice_eq_none_iff.trans ?_
    match kind with
    | 0 => exact Iff.rfl
    | 1 => exact readBeacon_none_iff p
    | 2 => exact or_congr_right (readGross_none_iff source p)
    | 3 => exact or_congr_right (readNet_none_iff p)
    | 4 => exact or_congr_right (readTip_none_iff p)
    | 5 => exact or_congr_right (readLotCrushed_none_iff p)
    | 6 => exact or_congr_right (readDayEnd_none_iff p)
    | 7 => exact or_congr_right (readDaySummary_none_iff p)
    | n + 8 => exact Iff.rfl

end Sys2Proof.Machine
end

section
/-! PROOFS. The tables of the weighbridge stations and of the tip unit stay within their capacities, one entry for a key or a
plate (R61, R68, R72, R75). -/

namespace Sys2Proof.Machine

/-! ### Lists that keep a capacity and keep their keys apart -/

/-- From `l` to `l'` a table of `n` places keeps within them, and keeps one entry for a key. -/
structure ListKept {α κ : Type} (n : Nat) (key : α → κ) (l l' : List α) : Prop where
  within : l.length ≤ n → l'.length ≤ n
  distinct : l.Pairwise (fun a b => key a ≠ key b) → l'.Pairwise fun a b => key a ≠ key b

namespace ListKept

variable {α κ : Type} {n : Nat} {key : α → κ} {l m l' : List α}

theorem refl (l : List α) : ListKept n key l l := ⟨id, id⟩

theorem trans (h : ListKept n key l m) (h' : ListKept n key m l') : ListKept n key l l' :=
  ⟨h'.within ∘ h.within, h'.distinct ∘ h.distinct⟩

theorem empty (l : List α) : ListKept n key l [] := ⟨fun _ => Nat.zero_le n, fun _ => .nil⟩

/-- A table whose keys are some of the keys it held, in their order. -/
theorem of_keys (h : (l'.map key).Sublist (l.map key)) : ListKept n key l l' := by
  refine ⟨fun hl => ?_, fun hd => ?_⟩
  · have hlength := h.length_le
    simp only [List.length_map] at hlength
    exact hlength.trans hl
  · have hkeys : (l.map key).Pairwise (· ≠ ·) := List.pairwise_map.2 hd
    exact List.pairwise_map.1 (hkeys.sublist h)

theorem of_sublist (h : l'.Sublist l) : ListKept n key l l' := of_keys (h.map key)

/-- An entry of a new key joins a table that has kept some of its keys and has room. -/
theorem join {x : α} (hkeys : (m.map key).Sublist (l.map key)) (hroom : l.length ≤ n → m.length < n)
    (hnew : ∀ y ∈ m, key y ≠ key x) : ListKept n key l (m ++ [x]) := by
  refine ⟨fun hl => ?_, fun hd => ?_⟩
  · simpa using hroom hl
  · exact List.pairwise_append.2 ⟨(of_keys (n := n) hkeys).distinct hd, List.pairwise_singleton .., by simpa using hnew⟩

end ListKept

/-- Taking the entries of a key that is held leaves a table shorter. -/
theorem length_filter_lt {α : Type} {p : α → Bool} {l : List α} {e : α} (he : e ∈ l) (hp : p e = false) :
    (l.filter p).length < l.length :=
  List.length_filter_lt_length_iff_exists.2 ⟨e, he, by simp [hp]⟩

/-! ### Tare tables (R68) -/

theorem tareWrite_kept (plate : Plate) (tare : Nat) (t : List TareEntry) :
    ListKept 128 TareEntry.plate t (tareWrite plate tare t) := by
  refine ⟨fun _ => ?_, fun hd => pairwise_write _ rfl hd (List.take_sublist _ _)⟩
  simp [tareWrite, Limits.tareTable]

theorem tareUsed_kept (plate : Plate) (t : List TareEntry) : ListKept 128 TareEntry.plate t (tareUsed plate t) := by
  cases hfind : t.find? (·.plate = plate) with
  | none =>
    rw [tareUsed_of_absent (by simpa using hfind)]
    exact .refl t
  | some e =>
    have hmem := List.mem_of_find?_eq_some hfind
    have hplate : e.plate = plate := by simpa using List.find?_some hfind
    rw [tareUsed_of_find hfind]
    refine ⟨fun ht => ?_, fun hd => pairwise_write _ hplate hd (List.Sublist.refl _)⟩
    have hshorter : (t.filter (·.plate ≠ plate)).length < t.length := length_filter_lt hmem (by simp [hplate])
    exact Nat.le_trans hshorter ht

/-! ### The weighbridge (R61, R68) -/

/-- The open table and the tare table keep within their places, one entry for a key or a plate. -/
structure WeighUnit.Kept (a b : WeighUnit) : Prop where
  openTable : ListKept 64 OpenEntry.key a.openTable b.openTable
  tares : ListKept 128 TareEntry.plate a.tares b.tares

namespace WeighUnit.Kept

theorem of_eq {a b : WeighUnit} (hopen : b.openTable = a.openTable) (htares : b.tares = a.tares) : a.Kept b :=
  ⟨hopen ▸ .refl _, htares ▸ .refl _⟩

theorem refl (a : WeighUnit) : a.Kept a := of_eq rfl rfl

theorem trans {a b c : WeighUnit} (h : a.Kept b) (h' : b.Kept c) : a.Kept c :=
  ⟨h.openTable.trans h'.openTable, h.tares.trans h'.tares⟩

theorem reset (a : WeighUnit) : a.Kept .reset := ⟨.empty _, .empty _⟩

end WeighUnit.Kept

theorem adoptDay_weighKept (d : Nat) (s : State) : s.wu.Kept (adoptDay d s).wu := by
  rw [adoptDay_eq]
  split
  · exact .refl _
  · dsimp only
    split <;> exact .of_eq rfl rfl

theorem expireOpen_weighKept (e : OpenEntry) (s : State) : s.wu.Kept (expireOpen e s).wu := by
  rw [expireOpen_eq]
  exact ⟨.of_sublist List.filter_sublist, tareUsed_kept ..⟩

/-- A GROSS of a new key joins the open table, whose oldest has left when it was full (R61, R62). -/
theorem takeGrossAtExit_weighKept (n : GrossNotice) (s : State) : s.wu.Kept (takeGrossAtExit n s).wu := by
  unfold takeGrossAtExit
  split
  · exact .of_eq rfl rfl
  next hnew =>
    have hnew : ∀ y ∈ s.wu.openTable, y.key ≠ n.key := by simpa using hnew
    split
    next hfull =>
      have hfull : 64 ≤ s.wu.openTable.length := hfull
      split
      next e hhead =>
        have hmem := List.mem_of_mem_head? hhead
        have hkept := expireOpen_weighKept e s
        have hexpired : (expireOpen e s).wu.openTable = s.wu.openTable.filter (·.key ≠ e.key) := by rw [expireOpen_eq]
        refine ⟨?_, hkept.tares⟩
        rw [show (joinOpen n (expireOpen e s)).wu.openTable =
          (expireOpen e s).wu.openTable ++ [⟨n.key, n.plate, n.grower, n.gross, 0⟩] from rfl, hexpired]
        refine .join (List.filter_sublist.map _) (fun hl => ?_) fun y hy => hnew y (List.mem_of_mem_filter hy)
        exact Nat.lt_of_lt_of_le (length_filter_lt hmem (by simp)) hl
      next hhead =>
        rw [List.head?_eq_none_iff.1 hhead] at hfull
        exact absurd hfull (by decide)
    next hroom => exact ⟨.join (.refl _) (fun _ => Nat.not_le.1 hroom) hnew, .refl _⟩

theorem tareCapture_weighKept (mass : Nat) (v : Vehicle) (s : State) : s.wu.Kept (tareCapture mass v s).wu := by
  unfold tareCapture
  dsimp only
  split
  · simp only [removeOpen, offer_frame]
    exact ⟨.of_sublist List.filter_sublist, tareWrite_kept ..⟩
  · simp only [emit_frame]
    exact ⟨.refl _, tareWrite_kept ..⟩

theorem completeCapture_weighKept (mass : Nat) (s : State) : s.wu.Kept (completeCapture mass s).wu := by
  have hcaptured (wu : WeighUnit) : (emit (.captured mass) (s.setWu wu)).wu = wu := by simp
  unfold completeCapture
  dsimp only
  split
  · split
    · simp only [grossCapture, offer_frame]
      exact .of_eq (by simp) (by simp)
    · refine .trans ?_ (tareCapture_weighKept ..)
      rw [hcaptured]
      exact .of_eq rfl rfl
  · rw [hcaptured]
    exact .of_eq rfl rfl

theorem takeReading_weighKept (r : Reading) (s : State) : s.wu.Kept (takeReading r s).wu := by
  have hzero : s.wu.Kept (zeroStep r s).wu := by
    unfold zeroStep
    split <;> exact .of_eq rfl rfl
  rw [takeReading, (scaleOverStep_frame ..).2.2.2.1]
  refine hzero.trans ?_
  unfold captureStep startRun
  dsimp only
  split
  · exact .refl _
  · split <;> exact .of_eq rfl rfl
  · split
    · split
      · exact completeCapture_weighKept ..
      · exact .of_eq rfl rfl
    · split <;> exact .of_eq rfl rfl

theorem takeVehicle_weighKept (v : Vehicle) (s : State) : s.wu.Kept (takeVehicle v s).wu := by
  unfold takeVehicle
  dsimp only
  split <;> exact .of_eq (by simp) (by simp)

/-- The records that reach the weighbridge. -/
theorem ownRule_weighKept {k : RecordKind} (hk : k = .vehicle ∨ k = .weight ∨ k = .dayEnd) (p : List Byte) (s : State) :
    s.wu.Kept (ownRule k p s).wu := by
  rcases hk with rfl | rfl | rfl
  · simp only [ownRule, ownVehicle]
    split_ifs <;> rw [(replyTo_frame ..).2.2.2.1]
    · exact .refl _
    · exact .refl _
    · exact .refl _
    · exact takeVehicle_weighKept ..
  · simp only [ownRule, ownWeight]
    split <;> rw [(replyTo_frame ..).2.2.2.1]
    · exact takeReading_weighKept ..
    · exact .refl _
  · simp only [ownRule, ownDayEnd]
    split <;> rw [(replyTo_frame ..).2.2.2.1]
    · exact .refl _
    · have hadopted := adoptDay_weighKept (nextDay s.part.day)
        ((offer (.dayEnd ⟨s.part.day, nextDay s.part.day⟩) none s).setRa
          { (offer (.dayEnd ⟨s.part.day, nextDay s.part.day⟩) none s).ra with totals := .zero })
      exact .trans (.of_eq (by simp) (by simp)) hadopted

/-! ### The tip unit (R68, R72, R75) -/

/-- No key of the awaiting table is synthetic, nor the armed one. -/
def TipUnit.ArmedApart (tu : TipUnit) : Prop :=
  ∀ e ∈ tu.awaiting, e.key.synthetic = false ∧ ∀ a, tu.arming = some a → a.key ≠ e.key

/-- The awaiting table and the tare table keep within their places, one entry for a key or a plate, and the armed key stays
out of the awaiting table. -/
structure TipUnit.Kept (a b : TipUnit) : Prop where
  awaiting : ListKept 32 AwaitingEntry.key a.awaiting b.awaiting
  tares : ListKept 128 TareEntry.plate a.tares b.tares
  apart : a.ArmedApart → b.ArmedApart

namespace TipUnit.Kept

theorem of_eq {a b : TipUnit} (hawaiting : b.awaiting = a.awaiting) (htares : b.tares = a.tares)
    (harming : b.arming = a.arming) : a.Kept b := by
  refine ⟨hawaiting ▸ .refl _, htares ▸ .refl _, fun h => ?_⟩
  rwa [TipUnit.ArmedApart, hawaiting, harming]

theorem refl (a : TipUnit) : a.Kept a := of_eq rfl rfl rfl

theorem trans {a b c : TipUnit} (h : a.Kept b) (h' : b.Kept c) : a.Kept c :=
  ⟨h.awaiting.trans h'.awaiting, h.tares.trans h'.tares, h'.apart ∘ h.apart⟩

theorem reset (a : TipUnit) : a.Kept .reset := ⟨.empty _, .empty _, fun _ _ he => nomatch he⟩

/-- Entries leave; the arming record keeps its key, is gone, or is of a key that no entry left holds. -/
theorem of_sublist {a b : TipUnit} (hawaiting : b.awaiting.Sublist a.awaiting)
    (htares : ListKept 128 TareEntry.plate a.tares b.tares)
    (harming : ∀ r, b.arming = some r →
      (∃ r', a.arming = some r' ∧ r'.key = r.key) ∨ r.key.synthetic = true ∨ ∀ e ∈ b.awaiting, r.key ≠ e.key) :
    a.Kept b := by
  refine ⟨.of_sublist hawaiting, htares, fun hapart e he => ?_⟩
  obtain ⟨hnatural, hnot⟩ := hapart e (hawaiting.subset he)
  refine ⟨hnatural, fun r hr => ?_⟩
  obtain ⟨r', hr', hkey⟩ | hsynthetic | hnew := harming r hr
  · exact hkey ▸ hnot r' hr'
  · exact fun hkey => by simp [hkey, hnatural] at hsynthetic
  · exact hnew e he

end TipUnit.Kept

theorem takeGrossAtTip_tipKept {n : GrossNotice} (hn : n.key.synthetic = false) (s : State) :
    s.tu.Kept (takeGrossAtTip n s).tu := by
  unfold takeGrossAtTip
  dsimp only
  split
  · exact .of_eq rfl rfl rfl
  next hnew =>
    have hnew : (∀ y ∈ s.tu.awaiting, y.key ≠ n.key) ∧ ∀ a, s.tu.arming = some a → a.key ≠ n.key := by
      cases harming : s.tu.arming <;> simpa [harming] using hnew
    obtain ⟨hawaits, harmed⟩ := hnew
    have hjoined {l : List AwaitingEntry} (hl : l.Sublist s.tu.awaiting) (h : s.tu.ArmedApart) :
        ∀ e ∈ l ++ [⟨n.key, n.plate, n.gross, 0⟩],
          e.key.synthetic = false ∧ ∀ a, s.tu.arming = some a → a.key ≠ e.key := by
      intro e he
      rcases List.mem_append.1 he with he | he
      · exact h e (hl.subset he)
      · rw [List.mem_singleton.1 he]
        exact ⟨hn, harmed⟩
    split
    next hfull =>
      have hfull : 32 ≤ s.tu.awaiting.length := hfull
      have htail := List.drop_sublist 1 s.tu.awaiting
      refine ⟨.join (htail.map _) (fun hl => ?_) fun y hy => hawaits y (htail.subset hy), .refl _, hjoined htail⟩
      rw [List.length_drop]
      omega
    next hroom => exact ⟨.join (.refl _) (fun _ => Nat.not_le.1 hroom) hawaits, .refl _, hjoined (.refl _)⟩

theorem takeNetAtTip_tipKept (n : NetNotice) (s : State) : s.tu.Kept (takeNetAtTip n s).tu := by
  refine .of_sublist List.filter_sublist ?_ fun r hr => .inl ⟨r, hr, rfl⟩
  simp only [takeNetAtTip, State.setTu]
  split
  · exact tareWrite_kept ..
  · exact .refl _

theorem armFound_tipKept (e : AwaitingEntry) (m : Nat) (s : State) : s.tu.Kept (armFound e m s).tu := by
  refine .of_sublist List.filter_sublist (tareUsed_kept ..) fun r hr => .inr (.inr fun x hx => ?_)
  obtain rfl := Option.some.inj hr
  have hkey := (List.mem_filter.1 hx).2
  exact Ne.symm (by simpa using hkey)

theorem armSynthetic_tipKept (s : State) : s.tu.Kept (armSynthetic s).tu :=
  .of_sublist (.refl _) (.refl _) fun r hr => .inr (.inl (by obtain rfl := Option.some.inj hr; rfl))

theorem endSession_tipKept (s : State) : s.tu.Kept (endSession s).tu := .of_eq rfl rfl rfl

/-- The part number advances and the key stays, or the arming record is gone (R81). -/
theorem tipLot_tipKept {a : Arming} {s : State} (ha : s.tu.arming = some a) : s.tu.Kept (tipLot a s).tu := by
  simp only [tipLot, endSession, State.setTu, emit_frame, offer_frame]
  refine .of_sublist (.refl _) (.refl _) fun r hr => .inl ⟨a, ha, ?_⟩
  simp only [Arming.advance] at hr
  split at hr
  · cases hr
  · obtain rfl := Option.some.inj hr
    rfl

/-- The records that reach the tip unit. -/
theorem ownRule_tipKept {k : RecordKind} (hk : k = .assign ∨ k = .disarm) (p : List Byte) (s : State) :
    s.tu.Kept (ownRule k p s).tu := by
  rcases hk with rfl | rfl
  · simp only [ownRule, ownAssign]
    split_ifs <;> rw [(replyTo_frame ..).2.2.2.2.1]
    · exact .refl _
    · exact .refl _
    · exact .refl _
    · exact .refl _
    · unfold takeAssign
      split
      · exact armFound_tipKept ..
      · exact armSynthetic_tipKept ..
  · simp only [ownRule, ownDisarm]
    split <;> rw [(replyTo_frame ..).2.2.2.2.1]
    · exact .refl _
    · exact .of_sublist (.refl _) (.refl _) nofun

theorem countAges_tipKept (s : State) : s.tu.Kept (countAges s).tu := .of_eq rfl rfl rfl

end Sys2Proof.Machine
end

section
/-! PROOFS. The lot list, the pending nets, the shares and the ring of breakdowns stay within their capacities, one entry for
a lot or a key (R95, R106, R113, R127). -/

namespace Sys2Proof.Machine

/-! ### The lot list and the pending nets (R95, R113) -/

/-- The lot list and the pending nets keep within their places, one entry for a lot or a key. -/
structure CrushLine.Kept (a b : CrushLine) : Prop where
  lots : ListKept 32 Lot.lot a.lots b.lots
  pendingNets : ListKept 16 PendingNet.key a.pendingNets b.pendingNets

namespace CrushLine.Kept

/-- Lots leave or change under their key, and no other change. -/
theorem of_lots {a b : CrushLine} (hlots : (b.lots.map Lot.lot).Sublist (a.lots.map Lot.lot))
    (hnets : b.pendingNets = a.pendingNets) : a.Kept b := ⟨.of_keys hlots, hnets ▸ .refl _⟩

theorem of_eq {a b : CrushLine} (hlots : b.lots = a.lots) (hnets : b.pendingNets = a.pendingNets) : a.Kept b :=
  of_lots (hlots ▸ .refl _) hnets

theorem refl (a : CrushLine) : a.Kept a := of_eq rfl rfl

theorem trans {a b c : CrushLine} (h : a.Kept b) (h' : b.Kept c) : a.Kept c :=
  ⟨h.lots.trans h'.lots, h.pendingNets.trans h'.pendingNets⟩

theorem reset (a : CrushLine) : a.Kept .reset := ⟨.empty _, .empty _⟩

end CrushLine.Kept

theorem map_lot_updateLot (k : LotKey) {f : Lot → Lot} (hf : ∀ l, (f l).lot = l.lot) (lots : List Lot) :
    (updateLot k f lots).map Lot.lot = lots.map Lot.lot := by
  induction lots with
  | nil => rfl
  | cons l lots ih =>
    unfold updateLot
    split
    · simp [hf]
    · simp [ih]

theorem lot_credit (dest : CreditTo) (kg : Nat) (l : Lot) : (l.credit dest kg).lot = l.lot := by cases dest <;> rfl

theorem map_lot_creditLots (dest : CreditTo) (cs : List Credit) (lots : List Lot) :
    (creditLots dest cs lots).map Lot.lot = lots.map Lot.lot :=
  foldl_view (List.map Lot.lot) _ (fun _ _ => map_lot_updateLot _ (lot_credit dest _) _) cs lots

theorem map_lot_countDown (shares : List Share) (lots : List Lot) :
    (countDown shares lots).map Lot.lot = lots.map Lot.lot := by
  refine foldl_view (List.map Lot.lot) _ (fun ls sh => ?_) shares lots
  exact map_lot_updateLot sh.lot (fun _ => by rfl) ls

theorem releaseLots_cl (s : State) :
    (releaseLots s).cl = { s.cl with lots := s.cl.lots.filter fun l => !l.released } :=
  foldl_view State.cl _ (fun _ _ => by simp) _ _

theorem juicePath_crushKept (j : Nat) (shares : List Share) (s : State) : s.cl.Kept (juicePath j shares s).cl := by
  unfold juicePath
  split
  · exact .refl _
  · rw [attributeCane_eq]
    split
    · split
      · exact .of_eq rfl rfl
      · exact .of_lots ((map_lot_creditLots ..).symm ▸ .refl _) rfl
    · exact .of_lots ((map_lot_creditLots ..).symm ▸ .refl _) rfl

theorem attribution_crushKept (j : Nat) (number : BitVec 32) (s : State) : s.cl.Kept (attribution j number s).cl := by
  cases hfind : findBreakdown number s.ja.ring with
  | none =>
    simp only [attribution, hfind]
    exact .refl _
  | some b =>
    rw [attribution_of_found hfind rfl]
    split
    · exact juicePath_crushKept ..
    · refine (juicePath_crushKept j b.shares s).trans ?_
      rw [releaseLots_cl]
      refine .of_lots ((List.filter_sublist.map _).trans ?_) rfl
      rw [map_lot_countDown]

theorem closePeriod_crushKept (forced : Bool) (s : State) : s.cl.Kept (closePeriod forced s).cl := by
  have hattributed := attribution_crushKept (settledGrams s / 1000) (s.ja.k - BitVec.ofNat 32 (millCfg s).lag)
    (settlePeriod forced s)
  simpa [closePeriod, openPeriod, settlePeriod] using hattributed

theorem roomForShare_crushKept (k : LotKey) (s : State) : s.cl.Kept (roomForShare k s).cl := by
  unfold roomForShare
  split
  · exact closePeriod_crushKept ..
  · exact .refl _

theorem givePortion_crushKept (k : LotKey) (s : State) : s.cl.Kept (givePortion k s).cl := by
  refine (roomForShare_crushKept k s).trans ?_
  unfold givePortion
  dsimp only
  split
  · exact .refl _
  · refine .of_lots ?_ rfl
    refine Eq.symm (map_lot_updateLot k (fun x => ?_) _) ▸ .refl _
    split <;> rfl

theorem crushPositions_crushKept (k : LotKey) (n : Nat) (s : State) : s.cl.Kept (crushPositions k n s).cl := by
  induction n generalizing s with
  | zero => exact .refl _
  | succ n ih => exact (givePortion_crushKept k s).trans (ih _)

theorem advanceMouth_crushKept (p : Position) (s : State) : s.cl.Kept (advanceMouth p s).cl := by
  unfold advanceMouth
  induction s.cl.lots.filter (Lot.covers p) generalizing s with
  | nil => exact .refl _
  | cons l lots ih => exact (givePortion_crushKept l.lot s).trans (ih _)

/-- A lot of a new lot key joins the list, which has room (R95). -/
theorem enterLot_crushKept {l : Lot} {s : State} (hnew : ∀ x ∈ s.cl.lots, x.lot ≠ l.lot) (hroom : s.cl.lots.length < 32) :
    s.cl.Kept (enterLot l s).cl := by
  have hperm := insertLot_perm l s.cl.lots
  refine ⟨⟨fun _ => hperm.length_eq.trans_le hroom, fun hd => ?_⟩, .refl _⟩
  refine (hperm.pairwise_iff fun h => Ne.symm h).2 (List.pairwise_cons.2 ⟨fun x hx => ?_, hd⟩)
  exact Ne.symm (hnew x hx)

theorem placeLot_crushKept {n : TipNotice} {s : State} (hnew : ∀ x ∈ s.cl.lots, x.lot ≠ n.lot) (mass : Nat) (corrected : Bool) :
    s.cl.Kept (placeLot n mass corrected s).cl := by
  unfold placeLot
  dsimp only
  split
  · simp only [writeOff, offer_frame, emit_frame]
    exact .of_eq rfl rfl
  next hroom =>
    have hroom : s.cl.lots.length < 32 := Nat.not_le.1 hroom
    split
    · exact (enterLot_crushKept (l := { newLot n mass (newLotFlags n corrected s) s.cc.p with
        flags := { newLotFlags n corrected s with lateEntry := true } }) hnew hroom).trans (crushPositions_crushKept ..)
    · exact enterLot_crushKept hnew hroom

theorem takeTip_crushKept (n : TipNotice) (s : State) : s.cl.Kept (takeTip n s).cl := by
  unfold takeTip
  split
  · exact .of_eq rfl rfl
  next hnew =>
    have hnew : ∀ x ∈ s.cl.lots, x.lot ≠ n.lot := by simpa [findLot] using hnew
    split
    · refine .trans ?_ (placeLot_crushKept ?_ ..)
      · exact ⟨.refl _, .of_sublist List.filter_sublist⟩
      · exact hnew
    · exact placeLot_crushKept hnew _ _

theorem enterPendingNet_crushKept (key : Key) (net : Nat) (s : State) : s.cl.Kept (enterPendingNet key net s).cl := by
  unfold enterPendingNet
  dsimp only
  split
  · refine ⟨.refl _, .of_keys ?_⟩
    have hkeys : ∀ e ∈ s.cl.pendingNets, (if e.key = key then { e with net := net } else e).key = e.key := by
      intro e _
      split <;> rfl
    simp only [State.setCl, List.map_map]
    exact (List.map_congr_left hkeys) ▸ .refl _
  next hnew =>
    have hnew : ∀ y ∈ s.cl.pendingNets, y.key ≠ key := by simpa using hnew
    split
    next hfull =>
      have hfull : 16 ≤ s.cl.pendingNets.length := hfull
      have htail := List.drop_sublist 1 s.cl.pendingNets
      refine ⟨.refl _, .join (htail.map _) (fun hl => ?_) fun y hy => hnew y (htail.subset hy)⟩
      rw [List.length_drop]
      omega
    next hroom => exact ⟨.refl _, .join (.refl _) (fun _ => Nat.not_le.1 hroom) hnew⟩

theorem takeNetAtMill_crushKept (n : NetNotice) (s : State) : s.cl.Kept (takeNetAtMill n s).cl := by
  unfold takeNetAtMill
  split
  · refine .of_lots ?_ rfl
    have hlot (l : Lot) : (l.corrected n.net).lot = l.lot := by unfold Lot.corrected; split <;> rfl
    exact (map_lot_updateLot _ hlot _).symm ▸ .refl _
  · split
    · exact .refl _
    · exact enterPendingNet_crushKept ..

/-! ### The open breakdown and the ring (R106, R127) -/

/-- The shares of each breakdown are of different lots. -/
def RingDistinct (ring : List Breakdown) : Prop := ∀ b ∈ ring, b.shares.Pairwise fun x y => x.lot ≠ y.lot

/-- The open breakdown and the ring keep within their places, one share for a lot in each breakdown. -/
structure JuiceAttributor.Kept (a b : JuiceAttributor) : Prop where
  shares : ListKept 8 Share.lot a.shares b.shares
  ring : a.ring.length ≤ 8 → b.ring.length ≤ 8
  filed : a.shares.Pairwise (fun x y => x.lot ≠ y.lot) → RingDistinct a.ring → RingDistinct b.ring

/-- What the juice attributor holds of breakdowns: the open one's shares and the ring. -/
def JuiceAttributor.breakdowns (ja : JuiceAttributor) : List Share × List Breakdown := (ja.shares, ja.ring)

namespace JuiceAttributor.Kept

theorem of_shares {a b : JuiceAttributor} (hshares : ListKept 8 Share.lot a.shares b.shares) (hring : b.ring = a.ring) :
    a.Kept b := ⟨hshares, hring ▸ id, fun _ h => hring ▸ h⟩

theorem of_breakdowns {a b : JuiceAttributor} (h : b.breakdowns = a.breakdowns) : a.Kept b := by
  simp only [breakdowns, Prod.mk.injEq] at h
  exact of_shares (h.1 ▸ .refl _) h.2

theorem refl (a : JuiceAttributor) : a.Kept a := of_breakdowns rfl

theorem trans {a b c : JuiceAttributor} (h : a.Kept b) (h' : b.Kept c) : a.Kept c :=
  ⟨h.shares.trans h'.shares, h'.ring ∘ h.ring, fun hd hr => h'.filed (h.shares.distinct hd) (h.filed hd hr)⟩

theorem started (a : JuiceAttributor) (c : Settings) : a.Kept (startedJuice c) := by
  have hempty : (startedJuice c).shares = [] ∧ (startedJuice c).ring = [] := by
    unfold startedJuice
    split <;> exact ⟨rfl, rfl⟩
  refine ⟨hempty.1 ▸ .empty _, fun _ => ?_, fun _ _ => ?_⟩
  · rw [hempty.2]; exact Nat.zero_le _
  · rw [hempty.2]; exact fun _ h => nomatch h

theorem reset (a : JuiceAttributor) : a.Kept .reset :=
  ⟨.empty _, fun _ => Nat.zero_le _, fun _ _ _ h => nomatch h⟩

end JuiceAttributor.Kept

/-! #### Monitors and time leave the breakdowns alone -/

@[simp] theorem syncPause_breakdowns (i : MonitorId) (s : State) : (syncPause i s).ja.breakdowns = s.ja.breakdowns := by
  unfold syncPause; split <;> rfl

@[simp] theorem activate_breakdowns (i : MonitorId) (s : State) : (activate i s).ja.breakdowns = s.ja.breakdowns := by
  unfold activate; split <;> simp [setActive]

@[simp] theorem finish_breakdowns (i : MonitorId) (s : State) : (finish i s).ja.breakdowns = s.ja.breakdowns := by
  unfold finish; split <;> simp [setInactive]

@[simp] theorem conditionStarts_breakdowns (i : MonitorId) (s : State) :
    (conditionStarts i s).ja.breakdowns = s.ja.breakdowns := by simp [conditionStarts]

@[simp] theorem conditionEnds_breakdowns (i : MonitorId) (s : State) :
    (conditionEnds i s).ja.breakdowns = s.ja.breakdowns := by simp [conditionEnds]

@[simp] theorem observe_breakdowns (i : MonitorId) (s : State) : (observe i s).ja.breakdowns = s.ja.breakdowns := by
  unfold observe; dsimp only; (repeat' split) <;> simp

@[simp] theorem endingEvent_breakdowns (i : MonitorId) (s : State) :
    (endingEvent i s).ja.breakdowns = s.ja.breakdowns := by unfold endingEvent; split <;> simp

@[simp] theorem stallObservation_breakdowns (s : State) : (stallObservation s).ja.breakdowns = s.ja.breakdowns := by
  simp [stallObservation]

@[simp] theorem stallEnds_breakdowns (s : State) : (stallEnds s).ja.breakdowns = s.ja.breakdowns := by simp [stallEnds]

@[simp] theorem measurePulse_breakdowns (s : State) : (measurePulse s).ja.breakdowns = s.ja.breakdowns := by
  unfold measurePulse liveObservation; dsimp only; (repeat' split) <;> simp

@[simp] theorem reverseStep_breakdowns (s : State) : (reverseStep s).ja.breakdowns = s.ja.breakdowns := by
  unfold reverseStep; split <;> simp

@[simp] theorem takeClear_breakdowns (s : State) : (takeClear s).ja.breakdowns = s.ja.breakdowns := by
  have hone (t : State) (i : MonitorId) : (clearOne t i).ja.breakdowns = t.ja.breakdowns := by
    unfold clearOne; split <;> simp
  exact (foldl_view (·.ja.breakdowns) zeroCount (by simp) _ _).trans (foldl_view (·.ja.breakdowns) clearOne hone _ _)

@[simp] theorem countMs_breakdowns (s : State) : (countMs s).ja.breakdowns = s.ja.breakdowns := by
  have hms (periodMs : Nat) (ja : JuiceAttributor) : (ja.ms periodMs).breakdowns = ja.breakdowns := by
    unfold JuiceAttributor.ms; (repeat' split) <;> rfl
  unfold countMs countRoleMs; dsimp only; (repeat' split) <;> simp [hms]

theorem count_breakdowns (s : State) : (count s).ja.breakdowns = s.ja.breakdowns := by
  have hinputs (t : State) : (countInputs t).ja.breakdowns = t.ja.breakdowns := by
    unfold countInputs; (repeat' split) <;> rfl
  unfold count; dsimp only; (repeat' split) <;> simp [hinputs]

/-! #### A close files the shares and opens an empty breakdown -/

theorem map_shares_attribution (j : Nat) (number : BitVec 32) (s : State) :
    (attribution j number s).ja.ring.map Breakdown.shares = s.ja.ring.map Breakdown.shares := by
  have hmarked : (markAttributed number s.ja.ring).map Breakdown.shares = s.ja.ring.map Breakdown.shares := by
    rw [markAttributed, List.map_map]
    refine List.map_congr_left fun b _ => ?_
    simp only [Function.comp]
    split <;> rfl
  cases hfind : findBreakdown number s.ja.ring with
  | none =>
    simp only [attribution, hfind]
    rfl
  | some b =>
    rw [attribution_of_found hfind rfl]
    split
    · exact hmarked
    · rw [(releaseLots_frame _).2.2.2.2.2.1]
      exact hmarked

theorem pushRing_length (b : Breakdown) {ring : List Breakdown} (h : ring.length ≤ 8) : (pushRing b ring).length ≤ 8 := by
  unfold pushRing
  rw [List.length_append, List.length_singleton]
  split
  next hfull =>
    have hfull : 8 ≤ ring.length := hfull
    rw [List.length_drop]
    omega
  next hroom =>
    have hroom : ring.length < 8 := Nat.not_le.1 hroom
    omega

theorem mem_pushRing {b x : Breakdown} {ring : List Breakdown} (h : x ∈ pushRing b ring) : x ∈ ring ∨ x = b := by
  unfold pushRing at h
  rcases List.mem_append.1 h with h | h
  · split at h
    · exact .inl (List.mem_of_mem_drop h)
    · exact .inl h
  · exact .inr (List.mem_singleton.1 h)

theorem ringDistinct_iff (ring : List Breakdown) :
    RingDistinct ring ↔ ∀ shares ∈ ring.map Breakdown.shares, shares.Pairwise fun x y => x.lot ≠ y.lot := by
  simp [RingDistinct]

theorem closePeriod_juiceKept (forced : Bool) (s : State) : s.ja.Kept (closePeriod forced s).ja := by
  have hring : (closePeriod forced s).ja.ring.map Breakdown.shares =
      (pushRing ⟨s.ja.k, s.ja.shares, false⟩ s.ja.ring).map Breakdown.shares := by
    have hopened (t : State) : (openPeriod t).ja.ring = t.ja.ring := rfl
    unfold closePeriod
    dsimp only
    rw [conditionEnds_ja (by decide), hopened, (reportMeterSilent_frame ..).2.2.2.2.2.2.2.1, map_shares_attribution]
    rfl
  refine ⟨closePeriod_shares forced s ▸ .empty _, fun hl => ?_, fun hd hr => ?_⟩
  · have hlength := congrArg List.length hring
    simp only [List.length_map] at hlength
    exact hlength.trans_le (pushRing_length _ hl)
  · rw [ringDistinct_iff, hring, ← ringDistinct_iff]
    intro b hb
    obtain hb | rfl := mem_pushRing hb
    · exact hr b hb
    · exact hd

theorem roomForShare_juiceKept (k : LotKey) (s : State) : s.ja.Kept (roomForShare k s).ja := by
  unfold roomForShare
  split
  · exact closePeriod_juiceKept ..
  · exact .refl _

/-- There is a share of the lot, or room for one (R106). -/
theorem roomForShare_room (k : LotKey) (s : State) :
    holdsShare k (roomForShare k s).ja.shares = true ∨ (roomForShare k s).ja.shares.length < 8 := by
  by_cases hroom : holdsShare k s.ja.shares = true ∨ s.ja.shares.length < 8
  · rwa [roomForShare_of_room hroom]
  · rw [not_or, Nat.not_lt, Bool.not_eq_true] at hroom
    obtain ⟨hnot, hfull⟩ := hroom
    refine .inr ?_
    rw [roomForShare, if_pos (by simp [hnot, hfull, Limits.shares]), closePeriod_shares]
    decide

theorem givePortion_juiceKept (k : LotKey) (s : State) : s.ja.Kept (givePortion k s).ja := by
  have hroom := roomForShare_room k s
  refine (roomForShare_juiceKept k s).trans ?_
  unfold givePortion
  dsimp only
  split
  · exact .refl _
  next l hl =>
    refine .of_shares ?_ rfl
    simp only [State.setJa, State.setCl]
    split
    · refine .of_keys ?_
      rw [addToShare, List.map_map]
      refine (List.map_congr_left (g := Share.lot) fun sh _ => ?_) ▸ .refl _
      simp only [Function.comp]
      split <;> rfl
    next hnot =>
      refine .join (.refl _) (fun _ => hroom.resolve_left hnot) ?_
      simpa [holdsShare] using hnot

theorem crushPositions_juiceKept (k : LotKey) (n : Nat) (s : State) : s.ja.Kept (crushPositions k n s).ja := by
  induction n generalizing s with
  | zero => exact .refl _
  | succ n ih => exact (givePortion_juiceKept k s).trans (ih _)

theorem advanceMouth_juiceKept (p : Position) (s : State) : s.ja.Kept (advanceMouth p s).ja := by
  unfold advanceMouth
  induction s.cl.lots.filter (Lot.covers p) generalizing s with
  | nil => exact .refl _
  | cons l lots ih => exact (givePortion_juiceKept l.lot s).trans (ih _)

theorem placeLot_juiceKept (n : TipNotice) (mass : Nat) (corrected : Bool) (s : State) :
    s.ja.Kept (placeLot n mass corrected s).ja := by
  unfold placeLot
  dsimp only
  split
  · rw [(writeOff_frame ..).2.2.2.2.2.1]
    exact .refl _
  · split
    · exact crushPositions_juiceKept _ _ (enterLot _ s)
    · exact .refl _

theorem takeTip_juiceKept (n : TipNotice) (s : State) : s.ja.Kept (takeTip n s).ja := by
  unfold takeTip
  split
  · exact .refl _
  · split
    · refine .trans ?_ (placeLot_juiceKept ..)
      exact .refl _
    · exact placeLot_juiceKept ..

/-! ### A step of the carrier -/

theorem forwardStep_kept (s : State) : s.tu.Kept (forwardStep s).tu ∧ s.cl.Kept (forwardStep s).cl ∧
    s.ja.Kept (forwardStep s).ja := by
  unfold forwardStep netForwardStep
  dsimp only
  split
  · split
    · exact ⟨.of_eq rfl rfl rfl, .refl _, .refl _⟩
    · refine ⟨by simpa using TipUnit.Kept.refl _, ?_, ?_⟩
      · refine .trans ?_ (advanceMouth_crushKept ..)
        exact .refl _
      · refine .trans ?_ (advanceMouth_juiceKept ..)
        exact .refl _
  · split
    · exact ⟨by simpa using TipUnit.Kept.refl _, by simpa using CrushLine.Kept.refl _, .of_breakdowns (by simp)⟩
    · exact ⟨.refl _, .refl _, .refl _⟩

theorem reverseStep_kept (s : State) : s.tu.Kept (reverseStep s).tu ∧ s.cl.Kept (reverseStep s).cl ∧
    s.ja.Kept (reverseStep s).ja := by
  refine ⟨?_, by simpa using CrushLine.Kept.refl _, .of_breakdowns (by simp)⟩
  unfold reverseStep markOverrun
  split
  · exact .refl _
  · split
    · simpa using TipUnit.Kept.refl _
    · exact .of_eq (by simp) (by simp) (by simp)

theorem exec_stepPulse_kept {forward : Bool} {s t : State} (h : exec (.stepPulse forward) s = .next t) :
    s.tu.Kept t.tu ∧ s.cl.Kept t.cl ∧ s.ja.Kept t.ja := by
  have hmeasured (u : State) : (measurePulse (countRunPulse u)).tu = u.tu ∧ (measurePulse (countRunPulse u)).cl = u.cl ∧
      (measurePulse (countRunPulse u)).ja.breakdowns = u.ja.breakdowns := by simp
  simp only [exec, execStepPulse] at h
  split at h <;> cases h
  · obtain ⟨htu, hcl, hja⟩ := hmeasured (if forward = true then forwardStep s else reverseStep s)
    rw [htu, hcl]
    have hstep : s.tu.Kept (if forward = true then forwardStep s else reverseStep s).tu ∧
        s.cl.Kept (if forward = true then forwardStep s else reverseStep s).cl ∧
        s.ja.Kept (if forward = true then forwardStep s else reverseStep s).ja := by
      split
      · exact forwardStep_kept s
      · exact reverseStep_kept s
    exact ⟨hstep.1, hstep.2.1, hstep.2.2.trans (.of_breakdowns hja)⟩
  · exact ⟨.refl _, .refl _, .refl _⟩

end Sys2Proof.Machine
end

section
/-! PROOFS. What an empty queue brings: the counts of a tick block by block, the input pins, and what falls due (logs 2, 3, 8,
29 and 35). -/

namespace Sys2Proof.Machine

/-! ### The stages of a tick's counts -/

/-- The part with the line's and the field port's own ticks counted. -/
def portsCounted (s : State) : State :=
  { s with
    li := s.li.tick
    fp := if s.part.stationState = .powerUp then s.fp else s.fp.tick }

/-- A tick whose millisecond may be full. -/
def msCounted (s : State) : State :=
  if 500 ≤ s.clock.inMs + 1 then countMs (countInputs (portsCounted s)) else countInputs (portsCounted s)

theorem count_stages (s : State) :
    count s = { (if 125 ≤ s.clock.inCycle + 1 then countCycle (msCounted s) else msCounted s) with
      clock := ⟨if 500 ≤ s.clock.inMs + 1 then 0 else s.clock.inMs + 1,
        if 125 ≤ s.clock.inCycle + 1 then 0 else s.clock.inCycle + 1⟩ } := by
  have hports : (if s.part.stationState = .powerUp then s.setLi s.li.tick else (s.setLi s.li.tick).setFp s.fp.tick) =
      portsCounted s := by
    unfold portsCounted
    split <;> rfl
  have hfp : (s.setLi s.li.tick).fp = s.fp := rfl
  simp only [count, hfp, hports]
  rfl

/-- A block that the reference cycle leaves alone. -/
theorem count_view {α : Type} (view : State → α) (hcycle : ∀ t, view (countCycle t) = view t)
    (hclock : ∀ t clock, view { t with clock := clock } = view t) (s : State) : view (count s) = view (msCounted s) := by
  rw [count_stages, hclock]
  split
  · exact hcycle _
  · rfl

/-! ### The inputs and the reference cycle -/

theorem steadyTicks_eq (taken active : Bool) (n : Nat) :
    steadyTicks taken active n = if taken = active then 0 else bump 10000 n := by
  simp only [steadyTicks, eq_comm (a := active), Limits.contactTicks]

theorem countInputs_eq (s : State) : countInputs s = { s with
    tu := if Works .tip s then
        { s.tu with tipSteady := if s.tu.tipLevel = !s.wires.tipping.level then 0 else bump 10000 s.tu.tipSteady }
      else s.tu
    cc := if Works .mill s then
        { s.cc with runSteady := if s.cc.runLevel = !s.wires.run.level then 0 else bump 10000 s.cc.runSteady }
      else s.cc
    ja := if Works .mill s then
        { s.ja with flowTicks := if s.wires.flow.level = true then s.ja.flowTicks.map (bump 250) else none }
      else s.ja } := by
  unfold countInputs
  rw [steadyTicks_eq, steadyTicks_eq]
  by_cases htip : Works .tip s
  · have hmill : ¬ Works .mill s := by simp [Works, htip.2]
    rw [if_pos ((runsAs_iff ..).2 htip), if_pos htip, if_neg hmill, if_neg hmill]
    rfl
  · rw [if_neg (mt (runsAs_iff ..).1 htip), if_neg htip]
    by_cases hmill : Works .mill s
    · rw [if_pos ((runsAs_iff ..).2 hmill), if_pos hmill, if_pos hmill]
      rfl
    · rw [if_neg (mt (runsAs_iff ..).1 hmill), if_neg hmill, if_neg hmill]

theorem carrierRuns_iff (s : State) : carrierRuns s = true ↔ Works .tip s ∨ Works .mill s := by
  simp [carrierRuns, runsAs_iff]

theorem stallWatched_iff_works (s : State) :
    stallWatched s = true ↔ Works .mill s ∧ s.cc.runLevel = true ∧ s.cc.withholding = false := by
  simp [stallWatched, runsAs_iff, and_assoc]

theorem countCycle_cc (s : State) : (countCycle s).cc = { s.cc with
    measure := if Works .tip s ∨ Works .mill s then s.cc.measure.map fun m => { m with cycles := bump 4095 m.cycles }
      else s.cc.measure
    quietCycles :=
      if s.cc.measure = none ∧ Works .mill s ∧ s.cc.runLevel = true ∧ s.cc.withholding = false then
        bump 4095 s.cc.quietCycles
      else s.cc.quietCycles } := by
  unfold countCycle
  by_cases hruns : Works .tip s ∨ Works .mill s
  · rw [if_pos ((carrierRuns_iff s).2 hruns), if_pos hruns]
    cases hm : s.cc.measure with
    | some m => simp
    | none =>
      by_cases hwatched : stallWatched s = true
      · simp [hwatched, (stallWatched_iff_works s).1 hwatched, hm]
      · have hnot := mt (stallWatched_iff_works s).2 hwatched
        have hnone : s.cc = { s.cc with measure := none } := by rw [← hm]
        rw [if_neg hwatched, if_neg fun h => hnot h.2]
        exact hnone
  · have hmill : ¬ Works .mill s := fun h => hruns (.inr h)
    rw [if_neg (mt (carrierRuns_iff s).1 hruns), if_neg hruns, if_neg fun h => hmill h.2.1]

/-! ### A millisecond -/

theorem countRoleMs_eq (s : State) : countRoleMs s = { s with
    wu := if s.part.role = some .exit then
        { s.wu with openTable := s.wu.openTable.map fun e =>
          { e with ageMs := bump ((exitCfg s).openAgeHours * 3600000) e.ageMs } }
      else s.wu
    tu := if s.part.role = some .tip then
        { s.tu with
          awaiting := s.tu.awaiting.map fun e => { e with ageMs := bump 86400000 e.ageMs }
          minTipMs := if s.tu.session = .tipping then bump ((tipCfg s).minTipHalves * 500) s.tu.minTipMs else s.tu.minTipMs }
      else s.tu
    cc := if s.part.role = some .mill ∧ s.cc.withholding = true then
        { s.cc with allowanceMs := bump ((millCfg s).allowanceHalves * 500) s.cc.allowanceMs }
      else s.cc
    ja := if s.part.role = some .mill then s.ja.ms ((millCfg s).periodSeconds * 1000) else s.ja
    ra := if s.part.role = some .lab then
        { s.ra with
          table := s.ra.table.map (AsmEntry.ms (labCfg s))
          wait := s.ra.wait.map fun w => { w with timerMs := bump 60000 w.timerMs } }
      else s.ra } := by
  unfold countRoleMs
  cases hrole : s.part.role with
  | none => simp
  | some r =>
    cases r with
    | entry => simp
    | exit | tip | lab =>
      simp only [Option.some.injEq, reduceCtorEq, false_and, if_true, if_false]
      rfl
    | mill =>
      simp only [Option.some.injEq, reduceCtorEq, true_and, if_true, if_false]
      split <;> rfl

theorem countMs_run {s : State} (h : s.part.stationState = .run) : countMs s = countRoleMs { s with
    pt := ⟨mapTable (PeerEntry.ms (silenceMs s)) s.pt.peers, bump 10000 s.pt.runMs⟩
    li := { s.li with beaconTimer := s.li.beaconTimer.map (· - 1) } } := by
  unfold countMs
  rw [h]
  rfl

theorem countMs_units_outside_run {s : State} (h : s.part.stationState ≠ .run) :
    (countMs s).wu = s.wu ∧ (countMs s).tu = s.tu ∧ (countMs s).cc = s.cc ∧ (countMs s).ja = s.ja ∧
      (countMs s).ra = s.ra ∧ (countMs s).li = s.li := by
  unfold countMs
  split
  · exact ⟨rfl, rfl, rfl, rfl, rfl, rfl⟩
  · exact ⟨rfl, rfl, rfl, rfl, rfl, rfl⟩
  · exact ⟨rfl, rfl, rfl, rfl, rfl, rfl⟩
  next hrun => exact absurd hrun h

/-- The units' blocks after a millisecond, each in RUN in its own role. -/
theorem countMs_units (s : State) :
    (countMs s).wu = (if Works .exit s then
        { s.wu with openTable := s.wu.openTable.map fun e =>
          { e with ageMs := bump ((exitCfg s).openAgeHours * 3600000) e.ageMs } }
      else s.wu) ∧
    (countMs s).tu = (if Works .tip s then
        { s.tu with
          awaiting := s.tu.awaiting.map fun e => { e with ageMs := bump 86400000 e.ageMs }
          minTipMs := if s.tu.session = .tipping then bump ((tipCfg s).minTipHalves * 500) s.tu.minTipMs else s.tu.minTipMs }
      else s.tu) ∧
    (countMs s).cc = (if Works .mill s ∧ s.cc.withholding = true then
        { s.cc with allowanceMs := bump ((millCfg s).allowanceHalves * 500) s.cc.allowanceMs }
      else s.cc) ∧
    (countMs s).ja = (if Works .mill s then s.ja.ms ((millCfg s).periodSeconds * 1000) else s.ja) ∧
    (countMs s).ra = (if Works .lab s then
        { s.ra with
          table := s.ra.table.map (AsmEntry.ms (labCfg s))
          wait := s.ra.wait.map fun w => { w with timerMs := bump 60000 w.timerMs } }
      else s.ra) ∧
    (countMs s).li = { s.li with beaconTimer := if s.part.stationState = .run then s.li.beaconTimer.map (· - 1)
      else s.li.beaconTimer } := by
  by_cases hrun : s.part.stationState = .run
  · rw [countMs_run hrun, countRoleMs_eq]
    simp only [Works, hrun, true_and, if_true]
    exact ⟨rfl, rfl, rfl, rfl, rfl, trivial⟩
  · obtain ⟨hwu, htu, hcc, hja, hra, hli⟩ := countMs_units_outside_run hrun
    simp only [Works, hrun, false_and, if_false]
    exact ⟨hwu, htu, hcc, hja, hra, hli⟩

theorem countMs_part (s : State) : (countMs s).part = { s.part with
    powerUpMs := if s.part.stationState = .powerUp then bump 8 s.part.powerUpMs else s.part.powerUpMs } := by
  unfold countMs
  split
  next hstate => rw [if_pos hstate]; rfl
  next hstate => rw [if_neg (by simp [hstate])]
  next hstate => rw [if_neg (by simp [hstate])]; rfl
  next hstate =>
    rw [if_neg (by simp [hstate])]
    exact (countRoleMs_frame _).1

theorem peerMs_eq (period : Nat) : PeerEntry.ms period =
    fun e => if e.state = .heard then { e with sinceMs := bump period e.sinceMs } else e := rfl

theorem countMs_pt (s : State) : (countMs s).pt =
    ⟨if s.part.stationState = .config ∨ s.part.stationState = .run then mapTable (PeerEntry.ms (silenceMs s)) s.pt.peers
      else s.pt.peers,
      if s.part.stationState = .run then bump 10000 s.pt.runMs else s.pt.runMs⟩ := by
  unfold countMs
  split
  next hstate => simp [hstate]
  next hstate => simp [hstate]
  next hstate => simp [hstate]
  next hstate => simp [hstate]

theorem juiceMs_eq (periodMs : Nat) (ja : JuiceAttributor) : ja.ms periodMs = { ja with
    pausedMs := if ja.isOpen = true ∧ ja.isPaused = true then bump 600000 ja.pausedMs else ja.pausedMs
    runningMs := if ja.isOpen = true ∧ ja.isPaused = false then bump periodMs ja.runningMs else ja.runningMs } := by
  unfold JuiceAttributor.ms
  split
  next hopen =>
    split
    next hpaused => simp [hopen, hpaused]
    next hpaused => simp [hopen, hpaused]
  next hopen => rw [if_neg fun h => hopen h.1, if_neg fun h => hopen h.1]

theorem asmMs_eq (c : LabSettings) (e : AsmEntry) : e.ms c =
    if e.closed = none then
      { e with
        ageMs := bump (c.notCrushedHours * 3600000) e.ageMs
        completionMs := e.completionMs.map (bump (c.completionMinutes * 60000)) }
    else e := by
  unfold AsmEntry.ms
  by_cases hopen : e.closed = none
  · rw [if_neg (by simp [hopen]), if_pos hopen]
  · rw [if_pos (Option.isSome_iff_ne_none.2 hopen), if_neg hopen]

/-! ### The blocks after a tick's counts -/

theorem inputsCounted_eq (s : State) : countInputs (portsCounted s) = { s with
    li := s.li.tick
    fp := if s.part.stationState = .powerUp then s.fp else s.fp.tick
    tu := if Works .tip s then
        { s.tu with tipSteady := if s.tu.tipLevel = !s.wires.tipping.level then 0 else bump 10000 s.tu.tipSteady }
      else s.tu
    cc := if Works .mill s then
        { s.cc with runSteady := if s.cc.runLevel = !s.wires.run.level then 0 else bump 10000 s.cc.runSteady }
      else s.cc
    ja := if Works .mill s then
        { s.ja with flowTicks := if s.wires.flow.level = true then s.ja.flowTicks.map (bump 250) else none }
      else s.ja } := countInputs_eq (portsCounted s)

theorem msCounted_of_full {s : State} (h : 500 ≤ s.clock.inMs + 1) :
    msCounted s = countMs (countInputs (portsCounted s)) := if_pos h

theorem msCounted_of_not_full {s : State} (h : ¬ 500 ≤ s.clock.inMs + 1) :
    msCounted s = countInputs (portsCounted s) := if_neg h

theorem count_wu (s : State) : (count s).wu =
    if 500 ≤ s.clock.inMs + 1 ∧ Works .exit s then
      { s.wu with openTable := s.wu.openTable.map fun e =>
        { e with ageMs := bump ((exitCfg s).openAgeHours * 3600000) e.ageMs } }
    else s.wu := by
  rw [count_view State.wu (by simp) fun _ _ => rfl]
  by_cases hms : 500 ≤ s.clock.inMs + 1
  · rw [msCounted_of_full hms, (countMs_units _).1, inputsCounted_eq]
    simp only [hms, true_and]
    rfl
  · rw [msCounted_of_not_full hms, inputsCounted_eq]
    simp only [hms, false_and, if_false]

theorem count_tu (s : State) : (count s).tu = { s.tu with
    awaiting := if 500 ≤ s.clock.inMs + 1 ∧ Works .tip s then
        s.tu.awaiting.map fun e => { e with ageMs := bump 86400000 e.ageMs }
      else s.tu.awaiting
    minTipMs := if (500 ≤ s.clock.inMs + 1 ∧ Works .tip s) ∧ s.tu.session = .tipping then
        bump ((tipCfg s).minTipHalves * 500) s.tu.minTipMs
      else s.tu.minTipMs
    tipSteady := if Works .tip s then (if s.tu.tipLevel = !s.wires.tipping.level then 0 else bump 10000 s.tu.tipSteady)
      else s.tu.tipSteady } := by
  rw [count_view State.tu (by simp) fun _ _ => rfl]
  by_cases hms : 500 ≤ s.clock.inMs + 1
  · rw [msCounted_of_full hms, (countMs_units _).2.1, inputsCounted_eq]
    by_cases htip : Works .tip s
    · simp only [Works, htip, hms, true_and, and_self, if_true]
      rfl
    · simp only [htip, hms, and_false, false_and, if_false]
  · rw [msCounted_of_not_full hms, inputsCounted_eq]
    simp only [hms, false_and, if_false]
    split <;> rfl

theorem count_cc (s : State) :
    let measures := 125 ≤ s.clock.inCycle + 1 ∧ s.part.stationState = .run ∧
      (s.part.role = some .tip ∨ s.part.role = some .mill)
    let watched := s.part.role = some .mill ∧ s.cc.runLevel = true ∧ s.cc.withholding = false
    (count s).cc = { s.cc with
      allowanceMs := if (500 ≤ s.clock.inMs + 1 ∧ Works .mill s) ∧ s.cc.withholding = true then
          bump ((millCfg s).allowanceHalves * 500) s.cc.allowanceMs
        else s.cc.allowanceMs
      measure := if measures then s.cc.measure.map fun m => { m with cycles := bump 4095 m.cycles } else s.cc.measure
      quietCycles := if measures ∧ s.cc.measure = none ∧ watched then bump 4095 s.cc.quietCycles else s.cc.quietCycles
      runSteady := if Works .mill s then (if s.cc.runLevel = !s.wires.run.level then 0 else bump 10000 s.cc.runSteady)
        else s.cc.runSteady } := by
  intro measures watched
  have hcounted : (msCounted s).cc = { s.cc with
      allowanceMs := if (500 ≤ s.clock.inMs + 1 ∧ Works .mill s) ∧ s.cc.withholding = true then
          bump ((millCfg s).allowanceHalves * 500) s.cc.allowanceMs
        else s.cc.allowanceMs
      runSteady := if Works .mill s then (if s.cc.runLevel = !s.wires.run.level then 0 else bump 10000 s.cc.runSteady)
        else s.cc.runSteady } := by
    by_cases hms : 500 ≤ s.clock.inMs + 1
    · rw [msCounted_of_full hms, (countMs_units _).2.2.1, inputsCounted_eq]
      by_cases hmill : Works .mill s
      · simp only [Works, hmill, hms, true_and, and_self, if_true]
        split <;> rfl
      · simp only [hmill, hms, and_false, false_and, if_false]
    · rw [msCounted_of_not_full hms, inputsCounted_eq]
      simp only [hms, false_and, if_false]
      split <;> rfl
  have hpart : (msCounted s).part.stationState = s.part.stationState ∧ (msCounted s).part.role = s.part.role := by
    unfold msCounted
    split
    · rw [countMs_part, inputsCounted_eq]
      exact ⟨rfl, rfl⟩
    · rw [inputsCounted_eq]
      exact ⟨rfl, rfl⟩
  have hmeasures : (Works .tip (msCounted s) ∨ Works .mill (msCounted s)) ↔
      s.part.stationState = .run ∧ (s.part.role = some .tip ∨ s.part.role = some .mill) := by
    simp only [Works, hpart, and_or_left]
  have hquiet : (s.cc.measure = none ∧ Works .mill (msCounted s) ∧ s.cc.runLevel = true ∧ s.cc.withholding = false) ↔
      (s.part.stationState = .run ∧ (s.part.role = some .tip ∨ s.part.role = some .mill)) ∧ s.cc.measure = none ∧ watched := by
    simp only [Works, hpart, watched]
    tauto
  rw [count_stages]
  by_cases hcycle : 125 ≤ s.clock.inCycle + 1
  · rw [if_pos hcycle]
    refine (countCycle_cc _).trans ?_
    simp only [hcounted, hmeasures, hquiet, measures, hcycle, true_and]
  · rw [if_neg hcycle]
    simp only [hcounted, measures, hcycle, false_and, if_false]

theorem count_ja (s : State) : (count s).ja = { s.ja with
    pausedMs :=
      if (500 ≤ s.clock.inMs + 1 ∧ Works .mill s) ∧ s.ja.isOpen = true ∧ s.ja.isPaused = true then
        bump 600000 s.ja.pausedMs
      else s.ja.pausedMs
    runningMs :=
      if (500 ≤ s.clock.inMs + 1 ∧ Works .mill s) ∧ s.ja.isOpen = true ∧ s.ja.isPaused = false then
        bump ((millCfg s).periodSeconds * 1000) s.ja.runningMs
      else s.ja.runningMs
    flowTicks :=
      if Works .mill s then (if s.wires.flow.level = true then s.ja.flowTicks.map (bump 250) else none)
      else s.ja.flowTicks } := by
  rw [count_view State.ja (by simp) fun _ _ => rfl]
  by_cases hms : 500 ≤ s.clock.inMs + 1
  · rw [msCounted_of_full hms, (countMs_units _).2.2.2.1, inputsCounted_eq]
    by_cases hmill : Works .mill s
    · simp only [Works, hmill, hms, true_and, and_self, if_true, juiceMs_eq]
      rfl
    · simp only [hmill, hms, and_false, false_and, if_false]
  · rw [msCounted_of_not_full hms, inputsCounted_eq]
    simp only [hms, false_and, if_false]
    split <;> rfl

theorem count_ra (s : State) : (count s).ra =
    if 500 ≤ s.clock.inMs + 1 ∧ Works .lab s then
      { s.ra with
        table := s.ra.table.map fun e =>
          if e.closed = none then
            { e with
              ageMs := bump ((labCfg s).notCrushedHours * 3600000) e.ageMs
              completionMs := e.completionMs.map (bump ((labCfg s).completionMinutes * 60000)) }
          else e
        wait := s.ra.wait.map fun w => { w with timerMs := bump 60000 w.timerMs } }
    else s.ra := by
  rw [count_view State.ra (by simp) fun _ _ => rfl, ← funext (asmMs_eq (labCfg s))]
  by_cases hms : 500 ≤ s.clock.inMs + 1
  · rw [msCounted_of_full hms, (countMs_units _).2.2.2.2.1, inputsCounted_eq]
    simp only [hms, true_and]
    rfl
  · rw [msCounted_of_not_full hms, inputsCounted_eq]
    simp only [hms, false_and, if_false]

theorem lineTick_eq (li : LineInterface) : li.tick = { li with
    quietTicks := if li.tx = .sending then 0 else if li.quiet = .active then bump 160 li.quietTicks else li.quietTicks
    txTicks := if li.tx = .sending ∨ li.tx = .mark then li.txTicks + 1 else li.txTicks
    slotsLeft := if (li.tx = .backoff ∧ li.quiet = .quiet) ∧ 384 ≤ li.partSlot + 1 then li.slotsLeft - 1 else li.slotsLeft
    partSlot :=
      if li.tx = .backoff ∧ li.quiet = .quiet then (if 384 ≤ li.partSlot + 1 then 0 else li.partSlot + 1)
      else li.partSlot } := by
  unfold LineInterface.tick
  dsimp only
  split
  next htx => simp [htx]
  next htx => simp only [htx, reduceCtorEq, if_false, false_and, or_true, if_true]; split <;> rw [← htx]
  next htx =>
    have hactive : li.quiet = .active ↔ ¬ li.quiet = .quiet := by cases li.quiet <;> simp
    by_cases hquiet : li.quiet = .quiet
    · by_cases hslot : 384 ≤ li.partSlot + 1 <;> simp [htx, hquiet, hslot]
    · simp [htx, hactive, hquiet]
  next htx => simp only [htx, reduceCtorEq, if_false, false_and, or_self]; split <;> rw [← htx]
  next htx => simp only [htx, reduceCtorEq, if_false, false_and, or_self]; split <;> rw [← htx]

theorem count_li (s : State) : (count s).li = { s.li.tick with
    beaconTimer := if 500 ≤ s.clock.inMs + 1 ∧ s.part.stationState = .run then s.li.beaconTimer.map (· - 1)
      else s.li.beaconTimer } := by
  have hbeacon : s.li.tick.beaconTimer = s.li.beaconTimer := by rw [lineTick_eq]
  rw [count_view State.li (by simp) fun _ _ => rfl, ← hbeacon]
  by_cases hms : 500 ≤ s.clock.inMs + 1
  · rw [msCounted_of_full hms, (countMs_units _).2.2.2.2.2, inputsCounted_eq]
    simp only [hms, true_and]
  · rw [msCounted_of_not_full hms, inputsCounted_eq]
    simp only [hms, false_and, if_false]

theorem count_powerUpMs (s : State) : (count s).part = { s.part with
    powerUpMs := if 500 ≤ s.clock.inMs + 1 ∧ s.part.stationState = .powerUp then bump 8 s.part.powerUpMs
      else s.part.powerUpMs } := by
  rw [count_view State.part (by simp) fun _ _ => rfl]
  by_cases hms : 500 ≤ s.clock.inMs + 1
  · rw [msCounted_of_full hms, countMs_part, inputsCounted_eq]
    simp only [hms, true_and]
  · rw [msCounted_of_not_full hms, inputsCounted_eq]
    simp only [hms, false_and, if_false]

theorem count_pt (s : State) : (count s).pt =
    ⟨if 500 ≤ s.clock.inMs + 1 ∧ (s.part.stationState = .config ∨ s.part.stationState = .run) then
        mapTable (fun e => if e.state = .heard then { e with sinceMs := bump (silenceMs s) e.sinceMs } else e) s.pt.peers
      else s.pt.peers,
      if 500 ≤ s.clock.inMs + 1 ∧ s.part.stationState = .run then bump 10000 s.pt.runMs else s.pt.runMs⟩ := by
  rw [count_view State.pt (by simp) fun _ _ => rfl, ← peerMs_eq]
  by_cases hms : 500 ≤ s.clock.inMs + 1
  · rw [msCounted_of_full hms, countMs_pt, inputsCounted_eq]
    simp only [hms, true_and]
    rfl
  · rw [msCounted_of_not_full hms, inputsCounted_eq]
    simp only [hms, false_and, if_false]

theorem count_fp (s : State) : (count s).fp = if s.part.stationState = .powerUp then s.fp else s.fp.tick := by
  rw [count_view State.fp (by simp) fun _ _ => rfl]
  by_cases hms : 500 ≤ s.clock.inMs + 1
  · rw [msCounted_of_full hms, (countMs_frame _).2.2.1, inputsCounted_eq]
  · rw [msCounted_of_not_full hms, inputsCounted_eq]

theorem fieldPortTick_eq (fp : FieldPort) : fp.tick = { fp with
    outTicks := if fp.out = [] then fp.outTicks else fp.outTicks + 1
    gapTicks := if fp.rx = .stopped ∨ fp.rx = .hunt then fp.gapTicks else bump 25001 fp.gapTicks } := by
  unfold FieldPort.tick
  cases fp.rx <;> rfl

theorem count_clock (s : State) : (count s).clock = ⟨if 500 ≤ s.clock.inMs + 1 then 0 else s.clock.inMs + 1,
    if 125 ≤ s.clock.inCycle + 1 then 0 else s.clock.inCycle + 1⟩ := by
  rw [count_stages]

/-! ### The input pins -/

theorem rises_iff (before after : Wave) : rises before after = true ↔ before.level = false ∧ after.level = true := by
  simp [rises]

theorem tickInputs_eq (s : State) :
    let flowRises := s.part.stationState = .run ∧ s.part.role = some .mill ∧ s.wires.flow.level = false ∧
      s.wires.flow.tick.level = true
    let steps := s.part.stationState = .run ∧ (s.part.role = some .tip ∨ s.part.role = some .mill) ∧
      s.wires.stepPin.level = false ∧ s.wires.stepPin.tick.level = true
    tickInputs s = { s with
      ja := { s.ja with flowTicks := if flowRises then some 0 else s.ja.flowTicks }
      wires := { s.wires with
        tipping := s.wires.tipping.tick, run := s.wires.run.tick, flow := s.wires.flow.tick
        stepPin := s.wires.stepPin.tick, dir := s.wires.dir.tick }
      pending := s.pending ++ if steps then [.stepPulse s.wires.dir.tick.level] else [] } := by
  intro flowRises steps
  have hflow : (runsAs .mill s && rises s.wires.flow s.wires.flow.tick) = true ↔ flowRises := by
    rw [Bool.and_eq_true, runsAs_iff, rises_iff, and_assoc]
  have hstep : (carrierRuns s && rises s.wires.stepPin s.wires.stepPin.tick) = true ↔ steps := by
    rw [Bool.and_eq_true, carrierRuns_iff, rises_iff, ← and_or_left, and_assoc]
  simp only [tickInputs, hflow, hstep]
  split <;> rfl

theorem wave_tick (level : Bool) (c : Change) (rest : List Change) :
    (Wave.mk level []).tick = ⟨level, []⟩ ∧ (c.wait ≤ 1 → (Wave.mk level (c :: rest)).tick = ⟨c.level, rest⟩) ∧
    (1 < c.wait → (Wave.mk level (c :: rest)).tick = ⟨level, ⟨c.wait - 1, c.level⟩ :: rest⟩) :=
  ⟨rfl, fun h => if_pos h, fun h => if_neg (Nat.not_le.2 h)⟩

/-! ### What has fallen due -/

theorem mem_dueWhen (b : Bool) (i c : Instr) : c ∈ dueWhen b i ↔ b = true ∧ c = i := by
  unfold dueWhen
  split <;> simp [*]

theorem mem_powerUpDue (s : State) (c : Instr) : c ∈ powerUpDue s ↔
    (s.part.stationState = .powerUp ∧ 8 ≤ s.part.powerUpMs) ∧
      c = .powerUpEnd s.wires.straps.station s.wires.straps.roleA s.wires.straps.roleB := by
  rw [powerUpDue, mem_dueWhen]
  simp

theorem inRecord_iff (rx : FieldRx) : rx.inRecord = true ↔ rx ≠ .stopped ∧ rx ≠ .hunt := by
  cases rx <;> simp [FieldRx.inRecord]

theorem mem_fieldPortDue (s : State) (c : Instr) : c ∈ fieldPortDue s ↔
    ((s.part.stationState ≠ .powerUp ∧
      ∃ it rest, s.fp.out = it :: rest ∧ it.wire.length * 100000 ≤ s.fp.outTicks * 384) ∧ c = .outboundItemSent) ∨
    (PortTakes s ∧ s.fp.rx ≠ .stopped ∧ s.fp.rx ≠ .hunt ∧ 25000 < s.fp.gapTicks) ∧ c = .recordGapTimeout := by
  have hgap : (fieldPortTakes s && s.fp.rx.inRecord && decide (Limits.gapTicks < s.fp.gapTicks)) = true ↔
      PortTakes s ∧ s.fp.rx ≠ .stopped ∧ s.fp.rx ≠ .hunt ∧ 25000 < s.fp.gapTicks := by
    rw [Bool.and_eq_true, Bool.and_eq_true, fieldPortTakes_iff, inRecord_iff, decide_eq_true_eq]
    simp only [and_assoc]
  rw [fieldPortDue, List.mem_append, mem_dueWhen, hgap]
  refine or_congr_left ?_
  cases hout : s.fp.out with
  | nil => simp
  | cons it rest => simp [mem_dueWhen]

theorem inFrame_iff (rx : LineRx) : rx.inFrame = true ↔ rx ≠ .waitQuiet ∧ ∀ last, rx ≠ .hunt last := by
  cases rx <;> simp [LineRx.inFrame]

theorem bodyInHand_isSome (s : State) : (bodyInHand s).isSome = true ↔
    s.li.inHand ≠ none ∧ (s.li.inHand = some .queueHead → s.li.queue ≠ []) := by
  unfold bodyInHand
  dsimp only
  split
  next h => simp [h]
  next h => simp [h]
  next h => split <;> simp [*]
  next h => simp [h]

theorem mem_lineDue (s : State) (c : Instr) : c ∈ lineDue s ↔
    ((s.li.quiet = .active ∧ 160 ≤ s.li.quietTicks) ∧ c = .lineQuiet) ∨
    ((s.li.quiet = .quiet ∧ Listens s ∧ ∀ last, s.li.rx ≠ .hunt last) ∧ c = .frameError .short) ∨
    ((s.li.tx = .sending ∧ lineLevel s = some true ∧ s.wires.line.level = false) ∧ c = .collision) ∨
    ((s.li.tx = .sending ∧ s.li.frame.length * 64 ≤ s.li.txTicks) ∧ c = .attemptComplete) ∨
    ((s.li.tx = .mark ∧ 16 ≤ s.li.txTicks) ∧ c = .collisionMarkEnd) ∨
    ((s.li.tx = .backoff ∧ s.li.slotsLeft = 0) ∧ c = .backoffEnd) ∨
    (s.part.stationState = .run ∧ s.li.tx = .waiting ∧ s.li.quiet = .quiet ∧ s.li.slotsLeft = 0 ∧
      s.li.inHand ≠ none ∧ (s.li.inHand = some .queueHead → s.li.queue ≠ [])) ∧ c = .attemptStart := by
  have hshort : (s.li.quiet == .quiet && s.li.rx.inFrame && receiverTakes s) = true ↔
      s.li.quiet = .quiet ∧ Listens s ∧ ∀ last, s.li.rx ≠ .hunt last := by
    rw [Bool.and_eq_true, Bool.and_eq_true, inFrame_iff, receiverTakes_iff, beq_iff_eq]
    tauto
  have hattempt : (mayAttempt s && (bodyInHand s).isSome) = true ↔
      s.part.stationState = .run ∧ s.li.tx = .waiting ∧ s.li.quiet = .quiet ∧ s.li.slotsLeft = 0 ∧
        s.li.inHand ≠ none ∧ (s.li.inHand = some .queueHead → s.li.queue ≠ []) := by
    rw [Bool.and_eq_true, bodyInHand_isSome]
    simp only [mayAttempt, Bool.and_eq_true, beq_iff_eq, and_assoc]
  have hend : s.li.frame.length * 16 * Limits.halfBitTicks = s.li.frame.length * 64 := by
    rw [Limits.halfBitTicks, Nat.mul_assoc]
  simp only [lineDue, List.mem_append, mem_dueWhen, hshort, lineMismatch_iff, hattempt, hend, Bool.and_eq_true, beq_iff_eq,
    decide_eq_true_eq, or_assoc]

theorem peerTimersRun_iff (s : State) :
    peerTimersRun s = true ↔ s.part.stationState = .config ∨ s.part.stationState = .run := by simp [peerTimersRun]

theorem mem_peerDue (s : State) (c : Instr) : c ∈ peerDue s ↔
    ((s.part.stationState = .run ∧ s.li.beaconTimer = some 0 ∧ s.li.startedSent = false ∧ s.li.tx = .idle) ∧
      c = .startedBeaconDue) ∨
    ((s.part.stationState = .run ∧ s.li.beaconTimer = some 0 ∧ s.li.startedSent = true) ∧ c = .regularBeaconDue) ∨
    (∃ n, ((s.part.stationState = .config ∨ s.part.stationState = .run) ∧ (peer s n).state = .heard ∧
      silenceMs s ≤ (peer s n).sinceMs) ∧ c = .peerSilenceExpiry n) ∨
    (10000 ≤ s.pt.runMs ∧ peerSilentHolds s = true ∧ (mon s .peerSilent).active = false) ∧ c = .peerAbsenceTimeout := by
  simp only [peerDue, List.mem_append, mem_dueWhen, List.mem_map, List.mem_filter, List.mem_finRange, true_and,
    Bool.and_eq_true, Bool.not_eq_true', beq_iff_eq, decide_eq_true_eq, peerTimersRun_iff, or_assoc, and_assoc,
    eq_comm (a := c)]

/-- A contact whose new level has held steady: the command by the level taken (R78, R90). -/
theorem mem_dueWhen_contact (level : Bool) {steady : Nat} {release active c : Instr} :
    c ∈ dueWhen (decide (Limits.contactTicks ≤ steady)) (if level then release else active) ↔
      (level = true ∧ 10000 ≤ steady) ∧ c = release ∨ (level = false ∧ 10000 ≤ steady) ∧ c = active := by
  rw [mem_dueWhen, decide_eq_true_eq, Limits.contactTicks]
  cases level <;> simp

theorem exists_mem_key {α : Type} {l : List α} {P : α → Prop} {f : α → Key} {k : Key} :
    (∃ e ∈ l, P e ∧ k = f e) ↔ ∃ e ∈ l, f e = k ∧ P e := by
  simp only [and_comm, eq_comm]

/-- What falls due in the role units, role by role. -/
theorem mem_roleDue (s : State) (c : Instr) : c ∈ roleDue s ↔
    (s.part.role = some .exit ∧
      ∃ e ∈ s.wu.openTable, (exitCfg s).openAgeHours * 3600000 ≤ e.ageMs ∧ c = .openEntryExpiry e.key) ∨
    (s.part.role = some .tip ∧
      ((∃ e ∈ s.tu.awaiting, 86400000 ≤ e.ageMs ∧ c = .awaitingEntryExpiry e.key) ∨
        (s.tu.session = .tipping ∧ (tipCfg s).minTipHalves * 500 ≤ s.tu.minTipMs) ∧ c = .minTipTimeExpiry ∨
        (s.tu.tipLevel = true ∧ 10000 ≤ s.tu.tipSteady) ∧ c = .tippingRelease ∨
        (s.tu.tipLevel = false ∧ 10000 ≤ s.tu.tipSteady) ∧ c = .tippingActive ∨
        (∃ m, s.cc.measure = some m ∧ 4095 ≤ m.cycles) ∧ c = .speedSaturation)) ∨
    (s.part.role = some .mill ∧
      ((s.cc.runLevel = true ∧ 10000 ≤ s.cc.runSteady) ∧ c = .runContactRelease ∨
        (s.cc.runLevel = false ∧ 10000 ≤ s.cc.runSteady) ∧ c = .runContactActive ∨
        (s.ja.isOpen = true ∧ ∃ n, s.ja.flowTicks = some n ∧ 250 ≤ n) ∧ c = .flowPulse ∨
        (∃ m, s.cc.measure = some m ∧ 4095 ≤ m.cycles) ∧ c = .speedSaturation ∨
        (stallWatched s = true ∧ s.cc.measure = none ∧ 4095 ≤ s.cc.quietCycles) ∧ c = .stallQuietInterval ∨
        (s.cc.withholding = true ∧ (millCfg s).allowanceHalves * 500 ≤ s.cc.allowanceMs) ∧ c = .startAllowanceExpiry ∨
        (s.ja.isOpen = true ∧ s.ja.isPaused = false ∧ (millCfg s).periodSeconds * 1000 ≤ s.ja.runningMs) ∧
          c = .periodTimerExpiry ∨
        (s.ja.isOpen = true ∧ s.ja.isPaused = true ∧ 600000 ≤ s.ja.pausedMs) ∧ c = .pauseLimitExpiry)) ∨
    (s.part.role = some .lab ∧
      ((∃ e ∈ s.ra.table, (e.closed = none ∧ ∃ t, e.completionMs = some t ∧ (labCfg s).completionMinutes * 60000 ≤ t) ∧
          c = .completionTimerExpiry e.key) ∨
        (∃ e ∈ s.ra.table, (e.closed = none ∧ e.parts = [] ∧ (labCfg s).notCrushedHours * 3600000 ≤ e.ageMs) ∧
          c = .notCrushedAgeExpiry e.key) ∨
        (∃ w, s.ra.wait = some w ∧ 60000 ≤ w.timerMs) ∧ c = .summaryWaitExpiry)) := by
  unfold roleDue
  split
  next h => simp only [h, Option.some.injEq, reduceCtorEq, true_and, false_and, or_false, List.mem_map, List.mem_filter,
      decide_eq_true_eq, and_assoc, eq_comm (a := c)]
  next h =>
    simp only [List.mem_append, mem_dueWhen_contact]
    simp only [h, Option.some.injEq, reduceCtorEq, true_and, false_and, or_false, false_or,
      mem_dueWhen, List.mem_map, List.mem_filter, decide_eq_true_eq, Bool.and_eq_true, beq_iff_eq, Option.any_eq_true, and_assoc,
      or_assoc, eq_comm (a := c)]
  next h =>
    simp only [List.mem_append, mem_dueWhen_contact]
    simp only [h, Option.some.injEq, reduceCtorEq, true_and, false_and, or_false, false_or,
      mem_dueWhen, decide_eq_true_eq, Bool.and_eq_true, Bool.not_eq_true', Option.isNone_iff_eq_none, Option.any_eq_true, and_assoc,
      or_assoc]
  next h => simp only [h, Option.some.injEq, reduceCtorEq, true_and, false_and, false_or, List.mem_append, mem_dueWhen,
      List.mem_map, List.mem_filter, decide_eq_true_eq, Bool.and_eq_true, Option.isNone_iff_eq_none, List.isEmpty_iff,
      Option.any_eq_true, and_assoc, or_assoc, eq_comm (a := c)]
  next h => simp [h]
  next h => simp [h]

theorem mem_due (s : State) (c : Instr) : c ∈ due s ↔
    c ∈ powerUpDue s ∨ c ∈ fieldPortDue s ∨ c ∈ lineDue s ∨ c ∈ peerDue s ∨ s.part.stationState = .run ∧ c ∈ roleDue s := by
  have hrole : c ∈ (if s.part.stationState = .run then roleDue s else []) ↔
      s.part.stationState = .run ∧ c ∈ roleDue s := by split <;> simp [*]
  simp only [due, List.mem_append, hrole, or_assoc]

/-- Settles O2: the step of an empty queue, the counts block by block, the pins, and what is due group by group. -/
theorem idleStepQueuesDueOrCounts : Obligations.IdleStepQueuesDueOrCounts := by
  refine ⟨fun s hempty => ?_, fun s => ?_, tickInputs_eq, wave_tick, fun s c => ?_⟩
  · have hstep : step s = .next (tick s) := by
      unfold step
      rw [hempty]
    rw [hstep, tick, hempty]
    rfl
  · intro ms cycle st here works up slots measures watched
    refine State.ext_blocks (count_powerUpMs s) ?_ (count_pt s) (count_wu s) (count_tu s) (count_cc s) (count_frame s).1
      (count_ja s) (count_ra s) (count_frame s).2.1 ?_ (count_clock s) (count_frame s).2.2.1 (count_frame s).2.2.2
    · rw [count_li, lineTick_eq]
      rfl
    · rw [count_fp, fieldPortTick_eq]
      rfl
  · intro run table
    rw [mem_due, mem_powerUpDue, mem_fieldPortDue, mem_lineDue, mem_peerDue, mem_roleDue]
    cases c with
      simp only [reduceCtorEq, and_false, or_false, false_or, exists_false, and_true, stallWatched_iff_works,
        Instr.powerUpEnd.injEq, Instr.frameError.injEq, Instr.peerSilenceExpiry.injEq, Instr.openEntryExpiry.injEq,
        Instr.awaitingEntryExpiry.injEq, Instr.completionTimerExpiry.injEq, Instr.notCrushedAgeExpiry.injEq]
    | powerUpEnd n a b =>
      obtain ⟨station, roleA, roleB⟩ := s.wires.straps
      simp only [Straps.mk.injEq, and_assoc, eq_comm (a := n), eq_comm (a := a), eq_comm (a := b)]
    | frameError e => exact and_comm
    | attemptStart | startedBeaconDue | regularBeaconDue => exact Iff.rfl
    | peerSilenceExpiry n => rw [exists_eq_right']
    | openEntryExpiry key | awaitingEntryExpiry key | completionTimerExpiry key | notCrushedAgeExpiry key =>
      rw [exists_mem_key]
      exact and_assoc.symm
    | tippingActive | tippingRelease | minTipTimeExpiry | runContactActive | runContactRelease | startAllowanceExpiry
    | flowPulse | periodTimerExpiry | pauseLimitExpiry | summaryWaitExpiry => exact and_assoc.symm
    | speedSaturation => rw [← or_and_right, ← and_assoc, and_or_left]
    | stallQuietInterval =>
      simp only [Works]
      tauto

end Sys2Proof.Machine
end

section
/-! PROOFS. The assembly table, the ready list and the store stay within their capacities, a key at most once across them and at
most one day record waiting (R146, R155, R159, R163); and every step keeps every table so. -/

namespace Sys2Proof.Machine

/-! ### The laboratory's tables -/

/-- The assembly table and the store keep within their places, and no more is read than is stored (R144, R146, R159). -/
structure RecordAssembler.Within (ra : RecordAssembler) : Prop where
  table : ra.table.length ≤ 48
  store : ra.store.length ≤ 256
  read : ra.readCount ≤ ra.store.length

/-- A key stands once across the table and the store; a key waits once, its READY entry being in the table; and one day record
waits at most, none while a summary wait runs (R146, R155, R163). -/
structure RecordAssembler.Distinct (ra : RecordAssembler) : Prop where
  keys : (ra.table.map AsmEntry.key ++ recordKeys ra.store).Pairwise (· ≠ ·)
  readyOnce : (recordKeys ra.ready).Pairwise (· ≠ ·)
  readyHeld : ∀ k ∈ recordKeys ra.ready, ∃ e ∈ ra.table, e.key = k ∧ e.closed ≠ none
  oneDay : (ra.ready.filter fun c => closedKey c = none).length + ra.wait.toList.length ≤ 1

/-- The laboratory keeps both. -/
structure RecordAssembler.Kept (a b : RecordAssembler) : Prop where
  within : a.Within → b.Within
  distinct : a.Distinct → b.Distinct

namespace RecordAssembler.Kept

theorem of_eq {a b : RecordAssembler} (htable : b.table = a.table) (hready : b.ready = a.ready) (hstore : b.store = a.store)
    (hread : b.readCount = a.readCount) (hwait : b.wait = a.wait) : a.Kept b := by
  refine ⟨fun ⟨ht, hs, hr⟩ => ⟨?_, ?_, ?_⟩, fun ⟨hk, ho, hh, hd⟩ => ⟨?_, ?_, ?_, ?_⟩⟩
  · rwa [htable]
  · rwa [hstore]
  · rwa [hread, hstore]
  · rwa [htable, hstore]
  · rwa [hready]
  · rwa [hready, htable]
  · rwa [hready, hwait]

theorem refl (a : RecordAssembler) : a.Kept a := ⟨id, id⟩

theorem trans {a b c : RecordAssembler} (h : a.Kept b) (h' : b.Kept c) : a.Kept c :=
  ⟨h'.within ∘ h.within, h'.distinct ∘ h.distinct⟩

theorem reset (a : RecordAssembler) : a.Kept .reset :=
  ⟨fun _ => ⟨Nat.zero_le _, Nat.zero_le _, Nat.le_refl _⟩,
    fun _ => ⟨.nil, .nil, fun _ h => (nomatch h), Nat.zero_le _⟩⟩

end RecordAssembler.Kept

theorem recordKeys_append (l m : List Closed) : recordKeys (l ++ m) = recordKeys l ++ recordKeys m := List.filterMap_append

/-! ### The moves into the store (R159) -/

/-- The laboratory with the items that find room moved into the store. -/
def RecordAssembler.moved (ra : RecordAssembler) : RecordAssembler :=
  { ra with
    store := ra.store ++ ra.ready.take (256 - ra.store.length)
    ready := ra.ready.drop (256 - ra.store.length)
    table := ra.table.filter fun e => !(ra.ready.take (256 - ra.store.length)).any fun x => closedKey x == some e.key }

theorem moveReady_ra (s : State) : (moveReady s).ra = s.ra.moved := enterWhileRoom_ra _ _

theorem any_closedKey_iff (l : List Closed) (k : Key) :
    (l.any fun x => closedKey x == some k) = true ↔ k ∈ recordKeys l := by
  simp [recordKeys, List.mem_filterMap]

theorem mem_moved_table {ra : RecordAssembler} {e : AsmEntry} :
    e ∈ ra.moved.table ↔ e ∈ ra.table ∧ e.key ∉ recordKeys (ra.ready.take (256 - ra.store.length)) := by
  simp only [RecordAssembler.moved, List.mem_filter, Bool.not_eq_true', ← Bool.not_eq_true, any_closedKey_iff]

theorem moved_kept (ra : RecordAssembler) : ra.Kept ra.moved := by
  refine ⟨fun ⟨htable, hstore, hread⟩ => ⟨?_, ?_, ?_⟩, fun ⟨hkeys, honce, hheld, hday⟩ => ?_⟩
  · exact (List.length_filter_le _ _).trans htable
  · simp only [RecordAssembler.moved, List.length_append, List.length_take]
    omega
  · simp only [RecordAssembler.moved, List.length_append]
    omega
  · have hsplit : recordKeys ra.ready = recordKeys (ra.ready.take (256 - ra.store.length)) ++
        recordKeys (ra.ready.drop (256 - ra.store.length)) := by
      rw [← recordKeys_append, List.take_append_drop]
    obtain ⟨htable, hstore, hcross⟩ := List.pairwise_append.1 hkeys
    rw [hsplit] at honce hheld
    obtain ⟨hentering, hwaiting, hapart⟩ := List.pairwise_append.1 honce
    refine ⟨?_, hwaiting, fun k hk => ?_, ?_⟩
    · have hstored : recordKeys ra.moved.store = recordKeys ra.store ++
          recordKeys (ra.ready.take (256 - ra.store.length)) := recordKeys_append ..
      rw [hstored, List.pairwise_append, List.pairwise_append]
      refine ⟨htable.sublist (List.filter_sublist.map _), ⟨hstore, hentering, fun a ha b hb => ?_⟩, fun a ha b hb => ?_⟩
      · obtain ⟨e, he, rfl, -⟩ := hheld b (List.mem_append_left _ hb)
        exact (hcross e.key (List.mem_map_of_mem he) a ha).symm
      · obtain ⟨e, he, rfl⟩ := List.mem_map.1 ha
        obtain ⟨htab, hnot⟩ := mem_moved_table.1 he
        rcases List.mem_append.1 hb with hb | hb
        · exact hcross e.key (List.mem_map_of_mem htab) b hb
        · exact fun hkey => hnot (hkey ▸ hb)
    · obtain ⟨e, he, rfl, hclosed⟩ := hheld k (List.mem_append_right _ hk)
      exact ⟨e, mem_moved_table.2 ⟨he, fun hin => hapart e.key hin e.key hk rfl⟩, rfl, hclosed⟩
    · have hfewer := ((List.drop_sublist (256 - ra.store.length) ra.ready).filter
        fun c => decide (closedKey c = none)).length_le
      exact le_trans (Nat.add_le_add_right hfewer _) hday

/-! ### Entries put in their place (R146) -/

/-- The key of an entry may stand in the table: no entry of it is READY, and with no entry of it, it is not stored and there is
room. -/
structure RecordAssembler.Admits (ra : RecordAssembler) (k : Key) : Prop where
  opens : ra.Distinct → ∀ x ∈ ra.table, x.key = k → x.closed = none
  fresh : (∀ x ∈ ra.table, x.key ≠ k) → k ∉ recordKeys ra.store
  room : (∀ x ∈ ra.table, x.key ≠ k) → ra.table.length < 48

theorem map_key_putEntry (e : AsmEntry) (table : List AsmEntry) :
    (putEntry e table).map AsmEntry.key =
      if ∃ x ∈ table, x.key = e.key then table.map AsmEntry.key else table.map AsmEntry.key ++ [e.key] := by
  have hany : (table.any (·.key = e.key)) = true ↔ ∃ x ∈ table, x.key = e.key := by simp
  rw [putEntry]
  by_cases h : ∃ x ∈ table, x.key = e.key
  · rw [if_pos (hany.2 h), if_pos h, List.map_map]
    refine List.map_congr_left fun x _ => ?_
    simp only [Function.comp]
    split
    next hx => exact hx.symm
    · rfl
  · rw [if_neg (mt hany.1 h), if_neg h, List.map_append]
    rfl

theorem mem_putEntry_self (e : AsmEntry) (table : List AsmEntry) : e ∈ putEntry e table := by
  unfold putEntry
  split
  next h =>
    obtain ⟨x, hx, hkey⟩ := List.any_eq_true.1 h
    exact List.mem_map.2 ⟨x, hx, if_pos (by simpa using hkey)⟩
  · exact List.mem_append_right _ (List.mem_singleton_self e)

theorem mem_putEntry_of_ne {e x : AsmEntry} {table : List AsmEntry} (hx : x ∈ table) (hne : x.key ≠ e.key) :
    x ∈ putEntry e table := by
  unfold putEntry
  split
  · exact List.mem_map.2 ⟨x, hx, if_neg hne⟩
  · exact List.mem_append_left _ hx

/-- In the place of its key an entry is the only one, or the entries of its key were there before. -/
theorem eq_of_mem_putEntry {e x : AsmEntry} {table : List AsmEntry} (hx : x ∈ putEntry e table) (hkey : x.key = e.key) :
    x = e := by
  unfold putEntry at hx
  split at hx
  · obtain ⟨y, -, rfl⟩ := List.mem_map.1 hx
    split at hkey
    next hy => rw [if_pos hy]
    next hy => exact absurd hkey hy
  next hnone =>
    rcases List.mem_append.1 hx with hx | hx
    · exact absurd hkey (by simpa using fun h => hnone (List.any_eq_true.2 ⟨x, hx, by simpa using h⟩))
    · exact List.mem_singleton.1 hx

/-- An entry put in the place of a key that may stand there. -/
theorem putEntry_kept {ra : RecordAssembler} {e : AsmEntry} (h : ra.Admits e.key) :
    ra.Kept { ra with table := putEntry e ra.table } := by
  have hmap := map_key_putEntry e ra.table
  have hheldOrNew : (∃ x ∈ ra.table, x.key = e.key) ∨ ∀ x ∈ ra.table, x.key ≠ e.key := by
    by_cases hh : ∃ x ∈ ra.table, x.key = e.key
    · exact .inl hh
    · exact .inr (by simpa using hh)
  refine ⟨fun ⟨htable, hstore, hread⟩ => ⟨?_, hstore, hread⟩, fun hd => ?_⟩
  · have hlength := congrArg List.length hmap
    rw [List.length_map] at hlength
    refine hlength.trans_le ?_
    obtain hheld | hnew := hheldOrNew
    · rw [if_pos hheld, List.length_map]
      exact htable
    · have hroom := h.room hnew
      rw [if_neg (by simpa using hnew), List.length_append, List.length_map]
      exact hroom
  · refine ⟨?_, hd.readyOnce, fun k hk => ?_, hd.oneDay⟩
    · obtain ⟨htable, hstore, hcross⟩ := List.pairwise_append.1 hd.keys
      rw [hmap]
      obtain hheld | hnew := hheldOrNew
      · rw [if_pos hheld]
        exact hd.keys
      · have hfresh := h.fresh hnew
        rw [if_neg (by simpa using hnew), List.append_assoc, List.pairwise_append]
        refine ⟨htable, List.pairwise_cons.2 ⟨fun k hk hkey => hfresh (hkey ▸ hk), hstore⟩, fun a ha b hb => ?_⟩
        rcases List.mem_cons.1 hb with rfl | hb
        · obtain ⟨x, hx, rfl⟩ := List.mem_map.1 ha
          exact hnew x hx
        · exact hcross a ha b hb
    · obtain ⟨x, hx, hkey, hclosed⟩ := hd.readyHeld k hk
      exact ⟨x, mem_putEntry_of_ne hx fun hx' => hclosed (h.opens hd x hx hx'), hkey, hclosed⟩

/-! ### Closings and day records (R155, R165) -/

/-- An entry that closes takes its READY entry's place, and its record waits until it finds room. -/
theorem closeEntry_kept {s : State} {e : AsmEntry} (cause : CloseCause) (h : s.ra.Admits e.key) :
    s.ra.Kept (closeEntry cause e s).ra := by
  have hput := putEntry_kept (e := { e with closed := some (closeRecord cause e) }) h
  have hready : s.ra.Kept { s.ra with
      table := putEntry { e with closed := some (closeRecord cause e) } s.ra.table
      totals := s.ra.totals.count (closeRecord cause e)
      ready := s.ra.ready ++ [.cons (closeRecord cause e)] } := by
    refine ⟨fun hw => ⟨(hput.within hw).table, hw.store, hw.read⟩, fun hd => ?_⟩
    have hd' := hput.distinct hd
    have hkeys : recordKeys (s.ra.ready ++ [.cons (closeRecord cause e)]) = recordKeys s.ra.ready ++ [e.key] :=
      recordKeys_append ..
    refine ⟨hd'.keys, ?_, fun k hk => ?_, ?_⟩
    · rw [hkeys, List.pairwise_append]
      refine ⟨hd.readyOnce, List.pairwise_singleton .., fun a ha b hb => ?_⟩
      obtain rfl := List.mem_singleton.1 hb
      obtain ⟨x, hx, rfl, hclosed⟩ := hd.readyHeld a ha
      exact fun hkey => hclosed (h.opens hd x hx hkey)
    · rw [hkeys] at hk
      rcases List.mem_append.1 hk with hk | hk
      · exact hd'.readyHeld k hk
      · obtain rfl := List.mem_singleton.1 hk
        exact ⟨_, mem_putEntry_self _ _, rfl, nofun⟩
    · have hsame : ((s.ra.ready ++ [Closed.cons (closeRecord cause e)]).filter fun c => closedKey c = none) =
          s.ra.ready.filter fun c => closedKey c = none := by
        rw [List.filter_append]
        simp [closedKey]
      rw [hsame]
      exact hd.oneDay
  refine hready.trans ?_
  rw [closeEntry, makeReady, moveReady_ra]
  exact moved_kept _

/-- The wait that ends gives its one day record. -/
theorem endWait_kept {s : State} {w : SummaryWait} (hw : s.ra.wait = some w) (mill : Option MillCounters) :
    s.ra.Kept (endWait w mill s).ra := by
  have hready : s.ra.Kept { s.ra with wait := none, ready := s.ra.ready ++ [.day ⟨w.day, w.totals, mill⟩] } := by
    refine ⟨fun h => ⟨h.table, h.store, h.read⟩, fun hd => ?_⟩
    have hkeys : recordKeys (s.ra.ready ++ [.day ⟨w.day, w.totals, mill⟩]) = recordKeys s.ra.ready := by
      rw [recordKeys_append]
      exact List.append_nil _
    have hday := hd.oneDay
    rw [hw] at hday
    refine ⟨hd.keys, hkeys ▸ hd.readyOnce, hkeys ▸ hd.readyHeld, ?_⟩
    simpa [List.filter_append, closedKey] using hday
  refine hready.trans ?_
  rw [endWait, makeReady, moveReady_ra]
  exact moved_kept _

/-! ### Items by their key (R146 to R151) -/

theorem applied_kept {s : State} {e : AsmEntry} (h : s.ra.Admits e.key) (hopen : e.closed = none) :
    s.ra.Kept (applied e s).ra := by
  have hput : s.ra.Kept (setTable (putEntry e s.ra.table) s).ra := putEntry_kept h
  unfold applied
  dsimp only
  split
  · refine hput.trans (closeEntry_kept .complete ⟨fun _ x hx hkey => ?_, fun hnone => ?_, fun hnone => ?_⟩)
    · rw [eq_of_mem_putEntry hx hkey]
      exact hopen
    · exact absurd rfl (hnone e (mem_putEntry_self e _))
    · exact absurd rfl (hnone e (mem_putEntry_self e _))
  · exact hput

/-- An OPEN entry found by its key is the only one of it. -/
theorem admits_of_find {s : State} {k : Key} {e : AsmEntry} (hfind : findAsm k s = some e) (hopen : e.closed = none) :
    s.ra.Admits k := by
  have hmem := List.mem_of_find?_eq_some hfind
  have hkey : e.key = k := by simpa using List.find?_some hfind
  refine ⟨fun hd x hx hxk => ?_, fun hnone => absurd hkey (hnone e hmem), fun hnone => absurd hkey (hnone e hmem)⟩
  obtain ⟨htable, -, -⟩ := List.pairwise_append.1 hd.keys
  have hsame : x = e := List.inj_on_of_nodup_map htable hx hmem (hxk.trans hkey.symm)
  exact hsame ▸ hopen

theorem keyStored_iff_recordKeys (k : Key) (s : State) : keyStored k s = true ↔ k ∈ recordKeys s.ra.store :=
  any_closedKey_iff _ _

/-- A key that is not stored and has no entry may stand in a table with room. -/
theorem admits_of_absent {s : State} {k : Key} (hfind : findAsm k s = none) (hstored : ¬ keyStored k s = true)
    (hroom : s.ra.table.length < 48) : s.ra.Admits k := by
  have hnew : ∀ x ∈ s.ra.table, x.key ≠ k := by simpa [findAsm] using hfind
  exact ⟨fun _ x hx hxk => absurd hxk (hnew x hx), fun _ => mt (keyStored_iff_recordKeys k s).2 hstored, fun _ => hroom⟩

theorem applyTo_kept {f : EntryChange} {s : State} {e : AsmEntry} (h : s.ra.Admits e.key) (hopen : e.closed = none)
    (hf : ∀ e', f e = some e' → e'.key = e.key ∧ e'.closed = e.closed) : s.ra.Kept (applyTo f e s).ra := by
  unfold applyTo
  split
  next e' he' =>
    obtain ⟨hkey, hclosed⟩ := hf e' he'
    exact applied_kept (hkey ▸ h) (hclosed.trans hopen)
  · exact .refl _

theorem labApply_kept {f : EntryChange} (hf : ∀ e e', f e = some e' → e'.key = e.key ∧ e'.closed = e.closed) (k : Key)
    (s : State) : s.ra.Kept (labApply k f s).ra := by
  unfold labApply
  split
  · exact .refl _
  next hstored =>
    split
    next e hfind =>
      have hkey : e.key = k := by simpa using List.find?_some hfind
      split
      · exact .refl _
      next hclosed =>
        have hopen : e.closed = none := by simpa using hclosed
        exact applyTo_kept (hkey ▸ admits_of_find hfind hopen) hopen (hf e)
    next hfind =>
      split
      next hroom =>
        have hnew : ∀ x ∈ s.ra.table, x.key ≠ k := by simpa [findAsm] using hfind
        have hadmits : s.ra.Admits (newEntry k).key := admits_of_absent hfind hstored hroom
        have hput : putEntry (newEntry k) s.ra.table = s.ra.table ++ [newEntry k] :=
          if_neg fun hany => by
            obtain ⟨x, hx, hkey⟩ := List.any_eq_true.1 hany
            exact hnew x hx (of_decide_eq_true hkey)
        rw [← hput]
        refine (putEntry_kept hadmits).trans (applyTo_kept (s := setTable _ s) ⟨?_, ?_, ?_⟩ rfl (hf _))
        · intro _ x hx hxk
          rw [eq_of_mem_putEntry hx hxk]
          rfl
        · exact fun hnone => absurd rfl (hnone _ (mem_putEntry_self _ _))
        · exact fun hnone => absurd rfl (hnone _ (mem_putEntry_self _ _))
      · exact .refl _

theorem takeGrossAtLab_kept (n : GrossNotice) (s : State) : s.ra.Kept (takeGrossAtLab n s).ra :=
  labApply_kept (fun e e' h => by obtain rfl := Option.some.inj h; exact ⟨rfl, rfl⟩) _ _

theorem takeNetAtLab_kept (n : NetNotice) (s : State) : s.ra.Kept (takeNetAtLab n s).ra := by
  refine labApply_kept (fun e e' h => ?_) _ _
  unfold withNet at h
  split at h
  · cases h
  · obtain rfl := Option.some.inj h
    exact ⟨rfl, rfl⟩

theorem takeLotCrushed_kept (n : LotCrushedNotice) (s : State) : s.ra.Kept (takeLotCrushed n s).ra := by
  refine labApply_kept (fun e e' h => ?_) _ _
  unfold withPart at h
  split at h
  · cases h
  · obtain rfl := Option.some.inj h
    exact ⟨rfl, rfl⟩

theorem takeDaySummary_kept (n : DaySummary) (s : State) : s.ra.Kept (takeDaySummary n s).ra := by
  unfold takeDaySummary
  split
  next w hw =>
    split
    · exact endWait_kept hw _
    · exact .refl _
  · exact .refl _

/-! ### The laboratory's records and timers -/

theorem takeAnalysis_kept {k : Key} (a : Analysis) {s : State} (hlate : ¬ keyLate k s = true)
    (hroom : findAsm k s = none → s.ra.table.length < 48) : s.ra.Kept (takeAnalysis k a s).ra := by
  obtain ⟨hstored, hready⟩ : ¬ keyStored k s = true ∧ ¬ keyReady k s = true := by simpa [keyLate] using hlate
  unfold takeAnalysis
  cases hfind : findAsm k s with
  | some e =>
    have hkey : e.key = k := by simpa using List.find?_some hfind
    have hopen : e.closed = none := by simpa [keyReady, hfind] using hready
    exact applied_kept (e := withAnalysis a e) (hkey ▸ admits_of_find hfind hopen) hopen
  | none => exact applied_kept (e := withAnalysis a (newEntry k)) (admits_of_absent hfind hstored (hroom hfind)) rfl

theorem takeRelease_kept {n : Nat} {s : State} (hn : n ≤ s.ra.readCount) : s.ra.Kept (takeRelease n s).ra := by
  have hfreed : s.ra.Kept { s.ra with store := s.ra.store.drop n, readCount := s.ra.readCount - n } := by
    refine ⟨fun h => ⟨h.table, ?_, ?_⟩, fun hd => ⟨?_, hd.readyOnce, hd.readyHeld, hd.oneDay⟩⟩
    · have hstore := h.store
      simp only [List.length_drop]
      omega
    · have hread := h.read
      simp only [List.length_drop]
      omega
    · exact hd.keys.sublist ((List.Sublist.refl _).append ((List.drop_sublist n _).filterMap _))
  have hdecided (t : State) : (decideStoreFull t).ra = t.ra := by
    unfold decideStoreFull
    split <;> simp
  rw [takeRelease, hdecided, moveReady_ra]
  exact hfreed.trans (moved_kept _)

theorem takeDayEndRecord_kept {s : State} (hday : dayRecordWaits s = false) :
    s.ra.Kept (takeDayEndRecord s).ra := by
  have hra : (takeDayEndRecord s).ra =
      { s.ra with totals := .zero, wait := some ⟨s.part.day, s.ra.totals, 0⟩ } := by simp [takeDayEndRecord]
  rw [hra]
  refine ⟨fun h => ⟨h.table, h.store, h.read⟩, fun hd => ⟨hd.keys, hd.readyOnce, hd.readyHeld, ?_⟩⟩
  have hnone : s.ra.ready.filter (fun c => closedKey c = none) = [] := by
    refine List.filter_eq_nil_iff.2 fun c hc => ?_
    have hwaits := List.any_eq_false.1 hday c hc
    simpa using hwaits
  rw [hnone]
  exact Nat.le_refl 1

/-- The records that reach the laboratory. -/
theorem ownRule_labKept {k : RecordKind} (hk : k = .analysis ∨ k = .dayEnd ∨ k = .read ∨ k = .release) (p : List Byte)
    (s : State) : s.ra.Kept (ownRule k p s).ra := by
  rcases hk with rfl | rfl | rfl | rfl
  · simp only [ownRule, ownAnalysis]
    split_ifs with hrange hlate hfull <;> rw [(replyTo_frame ..).2.2.2.2.2.2.2.2.1]
    · exact .refl _
    · exact .refl _
    · exact .refl _
    · exact takeAnalysis_kept _ hlate fun hnone => Nat.not_le.1 fun hle => hfull ⟨by simp [hnone], hle⟩
  · simp only [ownRule, ownDayEnd]
    split <;> rw [(replyTo_frame ..).2.2.2.2.2.2.2.2.1]
    · exact .refl _
    next hfree =>
      obtain ⟨-, hday⟩ : s.ra.wait = none ∧ dayRecordWaits s = false := by simpa using hfree
      exact takeDayEndRecord_kept hday
  · simp only [ownRule, ownRead]
    split
    · rw [(replyTo_frame ..).2.2.2.2.2.2.2.2.1]
      exact .refl _
    next c hc =>
      split <;> rw [(replyTo_frame ..).2.2.2.2.2.2.2.2.1]
      · exact .refl _
      · have hread := (List.getElem?_eq_some_iff.1 hc).1
        exact ⟨fun h => ⟨h.table, h.store, hread⟩, fun hd => ⟨hd.keys, hd.readyOnce, hd.readyHeld, hd.oneDay⟩⟩
  · simp only [ownRule, ownRelease]
    split <;> rw [(replyTo_frame ..).2.2.2.2.2.2.2.2.1]
    · exact .refl _
    next hn => exact takeRelease_kept (Nat.not_lt.1 hn)

theorem exec_labTimer_kept {c : Instr} {s t : State} (hc : (∃ key, c = .completionTimerExpiry key) ∨
    (∃ key, c = .notCrushedAgeExpiry key) ∨ c = .summaryWaitExpiry) (h : exec c s = .next t) : s.ra.Kept t.ra := by
  rcases exec_labTimer_cases hc h with rfl | ⟨cause, key, e, hfind, hopen, rfl⟩ | ⟨w, hw, rfl⟩
  · exact .refl _
  · have hkey : e.key = key := by simpa using List.find?_some hfind
    exact closeEntry_kept cause (hkey ▸ admits_of_find hfind hopen)
  · exact endWait_kept hw none

/-! ### Every table, through notices and records -/

/-- From `s` to `t` every unit keeps its tables. -/
structure TablesKept (s t : State) : Prop where
  weigh : s.wu.Kept t.wu
  tip : s.tu.Kept t.tu
  crush : s.cl.Kept t.cl
  juice : s.ja.Kept t.ja
  lab : s.ra.Kept t.ra

namespace TablesKept

theorem of_units {s t : State} (hwu : t.wu = s.wu) (htu : t.tu = s.tu) (hcl : t.cl = s.cl) (hja : t.ja = s.ja)
    (hra : t.ra = s.ra) : TablesKept s t :=
  ⟨hwu ▸ .refl _, htu ▸ .refl _, hcl ▸ .refl _, hja ▸ .refl _, hra ▸ .refl _⟩

theorem trans {s t u : State} (h : TablesKept s t) (h' : TablesKept t u) : TablesKept s u :=
  ⟨h.weigh.trans h'.weigh, h.tip.trans h'.tip, h.crush.trans h'.crush, h.juice.trans h'.juice, h.lab.trans h'.lab⟩

end TablesKept

/-- A GROSS that is read carries a consignment's own key (R26). -/
theorem readNotice_gross {kind : Nat} {source : StationNo} {sender : Role} {p : List Byte} {n : GrossNotice}
    (h : readNotice kind source sender p = some (.notice (.gross n))) : n.key.synthetic = false := by
  unfold readNotice at h
  split at h
  · cases h
  · split at h <;> simp only [Option.map_eq_some_iff, Received.notice.injEq, Notice.gross.injEq, reduceCtorEq, and_false,
      exists_false] at h
    obtain ⟨m, hm, rfl⟩ := h
    unfold readGross at hm
    dsimp only at hm
    split at hm
    · obtain rfl := Option.some.inj hm
      rfl
    · cases hm

theorem takeGross_kept {n : GrossNotice} (hn : n.key.synthetic = false) (s : State) : TablesKept s (takeGross n s) := by
  unfold takeGross
  split_ifs
  · exact ⟨takeGrossAtExit_weighKept n s, by simpa using .refl _, by simpa using .refl _, by simpa using .refl _,
      by simpa using .refl _⟩
  · exact ⟨by simpa using .refl _, takeGrossAtTip_tipKept hn s, by simpa using .refl _, by simpa using .refl _,
      by simpa using .refl _⟩
  · exact ⟨by simpa using .refl _, by simpa using .refl _, by simpa using .refl _, by simpa using .refl _,
      takeGrossAtLab_kept n s⟩
  · exact .of_units rfl rfl rfl rfl rfl

theorem takeNet_kept (n : NetNotice) (s : State) : TablesKept s (takeNet n s) := by
  unfold takeNet
  split_ifs
  · exact ⟨.refl _, takeNetAtTip_tipKept n s, .refl _, .refl _, .refl _⟩
  · exact ⟨by simpa using .refl _, by simpa using .refl _, takeNetAtMill_crushKept n s, by simpa using .refl _,
      by simpa using .refl _⟩
  · exact ⟨by simpa using .refl _, by simpa using .refl _, by simpa using .refl _, by simpa using .refl _,
      takeNetAtLab_kept n s⟩
  · exact .of_units rfl rfl rfl rfl rfl

theorem adoptDay_kept (d : Nat) (s : State) : TablesKept s (adoptDay d s) :=
  ⟨adoptDay_weighKept d s, by simpa using .refl _, by simpa using .refl _, by simpa using .refl _, by simpa using .refl _⟩

theorem takeDayEndNotice_kept (n : DayEndNotice) (s : State) : TablesKept s (takeDayEndNotice n s) := by
  have hadopted : TablesKept s (if s.part.role = some .lab then s else adoptDay n.newDay s) := by
    split
    · exact .of_units rfl rfl rfl rfl rfl
    · exact adoptDay_kept ..
  have hzeroed (t : State) : TablesKept t (takeDayEndAtMill n t) := by
    simp only [takeDayEndAtMill, zeroDay]
    refine ⟨by simpa using .refl _, by simpa using .refl _, ?_, ?_, by simpa using .refl _⟩
    · exact .of_eq (by simp) (by simp)
    · exact .of_breakdowns (by simp [JuiceAttributor.breakdowns])
  unfold takeDayEndNotice
  dsimp only
  split
  · exact hadopted.trans (hzeroed _)
  · exact hadopted

theorem actOn_kept {kind : Nat} {source : StationNo} {sender : Role} {p : List Byte} {r : Received}
    (hr : readNotice kind source sender p = some r) (s : State) : TablesKept s (actOn sender r s) := by
  have hsame : TablesKept s s := .of_units rfl rfl rfl rfl rfl
  unfold actOn
  split
  · unfold takeBeacon
    split
    · exact adoptDay_kept ..
    · exact hsame
  · exact takeGross_kept (readNotice_gross hr) s
  · exact takeNet_kept ..
  next n =>
    split
    · exact ⟨by simpa using .refl _, by simpa using .refl _, takeTip_crushKept n s, takeTip_juiceKept n s,
        by simpa using .refl _⟩
    · exact hsame
  next n =>
    split
    · exact ⟨by simpa using .refl _, by simpa using .refl _, by simpa using .refl _, by simpa using .refl _,
        takeLotCrushed_kept n s⟩
    · exact hsame
  · exact takeDayEndNotice_kept ..
  next n =>
    split
    · exact ⟨by simpa using .refl _, by simpa using .refl _, by simpa using .refl _, by simpa using .refl _,
        takeDaySummary_kept n s⟩
    · exact hsame

theorem receive_kept (h : FrameHeader) (k : Nat) (p : List Byte) (s : State) : TablesKept s (receive h k p s) := by
  rcases receive_cases h k p s with hr | hr | ⟨-, hr⟩ | ⟨-, hr | ⟨sender, hr | hr⟩⟩ <;> rw [hr]
  · exact .of_units rfl rfl rfl rfl rfl
  · exact .of_units (by simp) (by simp) (by simp) (by simp) (by simp)
  · exact .of_units (by simp) (by simp) (by simp) (by simp) (by simp)
  · exact .of_units (by simp) (by simp) (by simp) (by simp) (by simp)
  · exact .of_units (by simp) (by simp) (by simp) (by simp) (by simp)
  · have hheard : TablesKept s (heard sender h k p s) := .of_units (by simp) (by simp) (by simp) (by simp) (by simp)
    rcases checkNotice_cases h sender k p (heard sender h k p s) with hc | hc | ⟨r, hread, hc⟩ <;> rw [hc]
    · exact hheard.trans (.of_units rfl rfl rfl rfl rfl)
    · exact hheard.trans (.of_units rfl rfl rfl rfl rfl)
    · exact hheard.trans (actOn_kept hread _)

theorem enterRun_kept (c : Settings) (s : State) : TablesKept s (enterRun c s) := by
  have hstarted : TablesKept s (startUnits c s) := ⟨.reset _, .reset _, .reset _, .started _ c, .reset _⟩
  have hreported (t : State) : TablesKept t (reportPeerSilent t) := .of_units (by simp) (by simp) (by simp) (by simp) (by simp)
  unfold enterRun
  dsimp only
  split
  · exact hstarted.trans ((adoptDay_kept _ _).trans (hreported _))
  · exact hstarted.trans (hreported _)

theorem replyTo_kept (k : RecordKind) (code : ReplyCode) (s : State) : TablesKept s (replyTo k code s) :=
  .of_units (by simp) (by simp) (by simp) (by simp) (by simp)

theorem ownConfigure_kept (p : List Byte) (s : State) : TablesKept s (ownConfigure p s) := by
  unfold ownConfigure
  split
  · exact .of_units rfl rfl rfl rfl rfl
  · split
    · exact .of_units (by simp) (by simp) (by simp) (by simp) (by simp)
    · exact (enterRun_kept ..).trans (replyTo_kept ..)

theorem takeRestart_kept (s : State) : TablesKept s (takeRestart s) := by
  unfold takeRestart
  dsimp only
  split
  · refine .trans ?_ (enterRun_kept ..)
    exact .of_units rfl rfl rfl rfl rfl
  · exact .of_units rfl rfl rfl rfl rfl

/-! ### Every table, through the commands that reach it -/

/-- A record leaves a block as it was, or as its own rule leaves it. -/
theorem exec_record_view {c : Instr} {s t : State} {k : RecordKind} {p : List Byte} (hc : asRecord c = some (k, p))
    (h : exec c s = .next t) : (∃ fp, t = { s with fp := fp }) ∨ t = ownRule k p (hunting s) := by
  obtain rfl : decideRecord k p (ownRule k p) s = t := by simpa [exec_asRecord s hc] using h
  exact (decideRecord_cases k p (ownRule k p) s).imp id And.left

theorem unitsReached_weigh {c : Instr} {l : List UnitBlock} (hc : unitsReached c = some l) (hl : .weigh ∈ l) :
    (∃ k p, asRecord c = some (k, p) ∧ (k = .vehicle ∨ k = .weight ∨ k = .dayEnd)) ∨ ∃ key, c = .openEntryExpiry key := by
  cases c <;> cases hc <;> simp [asRecord] at hl ⊢

theorem unitsReached_tip {c : Instr} {l : List UnitBlock} (hc : unitsReached c = some l) (hl : .tip ∈ l) :
    (∃ k p, asRecord c = some (k, p) ∧ (k = .assign ∨ k = .disarm)) ∨ (∃ forward, c = .stepPulse forward) ∨
      (∃ key, c = .awaitingEntryExpiry key) ∨ c = .tippingActive ∨ c = .minTipTimeExpiry ∨ c = .tippingRelease := by
  cases c <;> cases hc <;> simp [asRecord] at hl ⊢

theorem unitsReached_crush {c : Instr} {l : List UnitBlock} (hc : unitsReached c = some l) (hl : .crush ∈ l) :
    (∃ forward, c = .stepPulse forward) ∨ c = .periodTimerExpiry ∨ c = .pauseLimitExpiry := by
  cases c <;> cases hc <;> simp at hl ⊢

theorem unitsReached_juice {c : Instr} {l : List UnitBlock} (hc : unitsReached c = some l) (hl : .juice ∈ l) :
    (∃ p, asRecord c = some (.clear, p)) ∨ (∃ forward, c = .stepPulse forward) ∨
      (c = .periodTimerExpiry ∨ c = .pauseLimitExpiry) ∨ c = .speedSaturation ∨ c = .stallQuietInterval ∨
      c = .runContactRelease ∨ c = .startAllowanceExpiry ∨ c = .flowPulse := by
  cases c <;> cases hc <;> simp [asRecord] at hl ⊢

theorem exec_weighKept {c : Instr} {s t : State} {l : List UnitBlock} (hc : unitsReached c = some l)
    (h : exec c s = .next t) : s.wu.Kept t.wu := by
  by_cases hin : UnitBlock.weigh ∈ l
  · rcases unitsReached_weigh hc hin with ⟨k, p, hrecord, hk⟩ | ⟨key, rfl⟩
    · obtain ⟨fp, rfl⟩ | rfl := exec_record_view hrecord h
      · exact .refl _
      · exact ownRule_weighKept hk p (hunting s)
    · simp only [exec, execOpenEntryExpiry] at h
      split at h
      · split at h <;> cases h
        · exact expireOpen_weighKept ..
        · exact .refl _
      · cases h
        exact .refl _
  · rw [(exec_units_frame hc h).1 hin]
    exact .refl _

theorem exec_tippingActive_kept {s t : State} (h : exec .tippingActive s = .next t) : s.tu.Kept t.tu := by
  simp only [exec, execTippingActive] at h
  split at h <;> cases h
  · have harmed : s.tu.Kept (if s.tu.arming.isSome = true then s else armSynthetic s).tu := by
      split
      · exact .refl _
      · exact armSynthetic_tipKept s
    exact harmed.trans (.of_eq rfl rfl rfl)
  · exact .refl _

theorem exec_tippingRelease_kept {s t : State} (h : exec .tippingRelease s = .next t) : s.tu.Kept t.tu := by
  simp only [exec, execTippingRelease] at h
  split at h
  · split at h
    · split at h <;> cases h
      next a ha => exact tipLot_tipKept ha
      · exact endSession_tipKept s
    · cases h
      exact endSession_tipKept s
  · cases h
    exact .refl _

theorem exec_tipKept {c : Instr} {s t : State} {l : List UnitBlock} (hc : unitsReached c = some l)
    (h : exec c s = .next t) : s.tu.Kept t.tu := by
  by_cases hin : UnitBlock.tip ∈ l
  · rcases unitsReached_tip hc hin with ⟨k, p, hrecord, hk⟩ | ⟨forward, rfl⟩ | ⟨key, rfl⟩ | rfl | rfl | rfl
    · obtain ⟨fp, rfl⟩ | rfl := exec_record_view hrecord h
      · exact .refl _
      · exact ownRule_tipKept hk p (hunting s)
    · exact (exec_stepPulse_kept h).1
    · simp only [exec, execAwaitingEntryExpiry] at h
      split at h <;> cases h
      · exact .of_sublist List.filter_sublist (.refl _) fun r hr => .inl ⟨r, hr, rfl⟩
      · exact .refl _
    · exact exec_tippingActive_kept h
    · simp only [exec, execMinTipTimeExpiry] at h
      split at h <;> cases h
      · exact .of_eq rfl rfl rfl
      · exact .refl _
    · exact exec_tippingRelease_kept h
  · rw [(exec_units_frame hc h).2.1 hin]
    exact .refl _

/-- A timer of the period closes it, or changes nothing (R122, R124). -/
theorem exec_periodTimer_cases {c : Instr} {s t : State} (hc : c = .periodTimerExpiry ∨ c = .pauseLimitExpiry)
    (h : exec c s = .next t) : t = s ∨ t = closePeriod false s := by
  rcases hc with rfl | rfl
  · simp only [exec, execPeriodTimerExpiry] at h
    split at h <;> cases h
    · exact .inr rfl
    · exact .inl rfl
  · simp only [exec, execPauseLimitExpiry] at h
    split at h <;> cases h
    · exact .inr rfl
    · exact .inl rfl

theorem exec_crushKept {c : Instr} {s t : State} {l : List UnitBlock} (hc : unitsReached c = some l)
    (h : exec c s = .next t) : s.cl.Kept t.cl := by
  by_cases hin : UnitBlock.crush ∈ l
  · rcases unitsReached_crush hc hin with ⟨forward, rfl⟩ | hperiod
    · exact (exec_stepPulse_kept h).2.1
    · obtain rfl | rfl := exec_periodTimer_cases hperiod h
      · exact .refl _
      · exact closePeriod_crushKept ..
  · rw [(exec_units_frame hc h).2.2.1 hin]
    exact .refl _

/-- The monitors' observations and the flow pulses leave the breakdowns alone. -/
theorem exec_observation_breakdowns {c : Instr} {s t : State} (hc : c = .speedSaturation ∨ c = .stallQuietInterval ∨
      c = .runContactRelease ∨ c = .startAllowanceExpiry ∨ c = .flowPulse) (h : exec c s = .next t) :
    t.ja.breakdowns = s.ja.breakdowns := by
  rcases hc with rfl | rfl | rfl | rfl | rfl
  · simp only [exec, execSpeedSaturation] at h
    split at h <;> cases h
    · split <;> simp
    · rfl
  · simp only [exec, execStallQuietInterval] at h
    split at h <;> cases h
    · simp
    · rfl
  · simp only [exec, execRunContactRelease] at h
    split at h <;> cases h
    · simp
    · rfl
  · simp only [exec, execStartAllowanceExpiry] at h
    split at h <;> cases h
    · simp
    · rfl
  · simp only [exec, execFlowPulse] at h
    split at h
    · split at h <;> cases h
      · rfl
      · exact conditionStarts_breakdowns ..
    · cases h
      rfl

theorem exec_juiceKept {c : Instr} {s t : State} {l : List UnitBlock} (hc : unitsReached c = some l)
    (h : exec c s = .next t) : s.ja.Kept t.ja := by
  by_cases hin : UnitBlock.juice ∈ l
  · rcases unitsReached_juice hc hin with ⟨p, hrecord⟩ | ⟨forward, rfl⟩ | hperiod | hobserves
    · obtain ⟨fp, rfl⟩ | rfl := exec_record_view hrecord h
      · exact .refl _
      · exact .of_breakdowns (by simp [ownRule])
    · exact (exec_stepPulse_kept h).2.2
    · obtain rfl | rfl := exec_periodTimer_cases hperiod h
      · exact .refl _
      · exact closePeriod_juiceKept ..
    · exact .of_breakdowns (exec_observation_breakdowns hobserves h)
  · rw [(exec_units_frame hc h).2.2.2.1 hin]
    exact .refl _

theorem exec_labKept {c : Instr} {s t : State} {l : List UnitBlock} (hc : unitsReached c = some l)
    (h : exec c s = .next t) : s.ra.Kept t.ra := by
  by_cases hin : UnitBlock.lab ∈ l
  · rcases unitsReached_lab hc hin with ⟨k, p, hrecord, hk⟩ | htimer
    · obtain ⟨fp, rfl⟩ | rfl := exec_record_view hrecord h
      · exact .refl _
      · exact ownRule_labKept hk p (hunting s)
    · exact exec_labTimer_kept htimer h
  · rw [(exec_units_frame hc h).2.2.2.2 hin]
    exact .refl _

theorem exec_tablesKept {c : Instr} {s t : State} (h : exec c s = .next t) : TablesKept s t := by
  cases hreached : unitsReached c with
  | some l =>
    exact ⟨exec_weighKept hreached h, exec_tipKept hreached h, exec_crushKept hreached h, exec_juiceKept hreached h,
      exec_labKept hreached h⟩
  | none =>
    rcases unitsReached_none hreached with hreset | ⟨header, kind, payload, hframe⟩ | ⟨k, p, hrecord, hk⟩
    · obtain ⟨part, -, rfl⟩ := exec_reset_state hreset h
      exact ⟨.reset _, .reset _, .reset _, .reset _, .reset _⟩
    · obtain rfl : receive header kind payload s = t := by simpa [exec_asFrame s hframe] using h
      exact receive_kept ..
    · have hhunting : TablesKept s (hunting s) := .of_units rfl rfl rfl rfl rfl
      obtain ⟨fp, rfl⟩ | rfl := exec_record_view hrecord h
      · exact .of_units rfl rfl rfl rfl rfl
      · rcases hk with rfl | rfl
        · exact hhunting.trans (ownConfigure_kept p _)
        · exact hhunting.trans ((takeRestart_kept _).trans (replyTo_kept ..))

/-! ### Every table, through a tick -/

theorem count_tablesKept (s : State) : TablesKept s (count s) := by
  refine ⟨?_, ?_, ?_, .of_breakdowns (count_breakdowns s), ?_⟩
  · rw [count_wu]
    split
    · exact ⟨.of_keys (by rw [List.map_map]; exact .refl _), .refl _⟩
    · exact .refl _
  · rw [count_tu]
    have hkeys : ListKept 32 AwaitingEntry.key s.tu.awaiting (s.tu.awaiting.map fun e => { e with ageMs := bump 86400000 e.ageMs }) :=
      .of_keys (by rw [List.map_map]; exact .refl _)
    refine ⟨?_, .refl _, fun hapart => ?_⟩
    · dsimp only
      split
      · exact hkeys
      · exact .refl _
    · intro e he
      dsimp only at he ⊢
      split at he
      · obtain ⟨x, hx, rfl⟩ := List.mem_map.1 he
        exact hapart x hx
      · exact hapart e he
  · rw [(count_frame s).1]
    exact .refl _
  · rw [count_ra]
    split
    · have hentry (e : AsmEntry) : (e.ms (labCfg s)).key = e.key ∧ (e.ms (labCfg s)).closed = e.closed := by
        unfold AsmEntry.ms
        split <;> exact ⟨rfl, rfl⟩
      rw [← funext (asmMs_eq (labCfg s))]
      have hmap : (s.ra.table.map (AsmEntry.ms (labCfg s))).map AsmEntry.key = s.ra.table.map AsmEntry.key := by
        rw [List.map_map]
        exact List.map_congr_left fun e _ => (hentry e).1
      refine ⟨fun hw => ⟨?_, hw.store, hw.read⟩, fun hd => ⟨?_, hd.readyOnce, fun k hk => ?_, ?_⟩⟩
      · rw [List.length_map]
        exact hw.table
      · rw [hmap]
        exact hd.keys
      · obtain ⟨e, he, hkey, hclosed⟩ := hd.readyHeld k hk
        obtain ⟨hkey', hclosed'⟩ := hentry e
        exact ⟨_, List.mem_map_of_mem he, hkey'.trans hkey, hclosed' ▸ hclosed⟩
      · have hday := hd.oneDay
        cases hw : s.ra.wait <;> simpa [hw] using hday
    · exact .refl _

theorem count_queueWithin {s : State} (h : QueueWithin s) : QueueWithin (count s) := by
  rw [QueueWithin, count_li, lineTick_eq]
  exact h

theorem count_outWithin {s : State} (h : OutWithin 16 s) : OutWithin 16 (count s) := by
  rw [OutWithin, count_fp]
  split <;> exact h

/-- A tick keeps the two queues and every table. -/
theorem tick_kept (s : State) : (QueueWithin s → QueueWithin (tick s)) ∧ (OutWithin 16 s → OutWithin 16 (tick s)) ∧
    TablesKept s (tick s) := by
  have hsame : TablesKept s s := .of_units rfl rfl rfl rfl rfl
  unfold tick
  split
  · exact ⟨id, id, hsame⟩
  · split
    · obtain ⟨w, ⟨-, hli, -, hwu, htu, -, hcl, hja, hra, -, hout⟩, rx, bit, flow, wires, commands, heq⟩ := advance_counts s
      have hbefore : TablesKept s w := .of_units hwu htu hcl hja hra
      have hafter := hbefore.trans (count_tablesKept w)
      rw [heq]
      refine ⟨fun h => ?_, fun h => ?_, hafter.weigh, hafter.tip, hafter.crush, hafter.juice.trans (.of_breakdowns rfl),
        hafter.lab⟩
      · have hw : QueueWithin w := by rwa [QueueWithin, hli]
        exact count_queueWithin hw
      · have hw : OutWithin 16 w := by rwa [OutWithin, hout]
        exact count_outWithin hw
    · exact ⟨id, id, .of_units rfl rfl rfl rfl rfl⟩

/-! ### Every step -/

theorem withinCapacities_of_kept {s t : State} (hqueue : QueueWithin s → QueueWithin t)
    (hout : OutWithin 16 s → OutWithin 16 t) (hk : TablesKept s t) (h : WithinCapacities s) : WithinCapacities t := by
  obtain ⟨hq, ho, hopen, hwtares, hawaiting, httares, hlots, hnets, hshares, hring, htable, hstore, hread⟩ := h
  have hlab := hk.lab.within ⟨htable, hstore, hread⟩
  exact ⟨hqueue hq, hout ho, hk.weigh.openTable.within hopen, hk.weigh.tares.within hwtares,
    hk.tip.awaiting.within hawaiting, hk.tip.tares.within httares, hk.crush.lots.within hlots,
    hk.crush.pendingNets.within hnets, hk.juice.shares.within hshares, hk.juice.ring hring, hlab.table, hlab.store, hlab.read⟩

theorem tablesDistinct_of_kept {s t : State} (hk : TablesKept s t) (h : TablesDistinct s) : TablesDistinct t := by
  obtain ⟨hopen, hwtares, hawaiting, httares, hapart, hlots, hnets, hshares, hring, hkeys, honce, hheld, hday⟩ := h
  have hlab := hk.lab.distinct ⟨hkeys, honce, hheld, hday⟩
  exact ⟨hk.weigh.openTable.distinct hopen, hk.weigh.tares.distinct hwtares, hk.tip.awaiting.distinct hawaiting,
    hk.tip.tares.distinct httares, hk.tip.apart hapart, hk.crush.lots.distinct hlots, hk.crush.pendingNets.distinct hnets,
    hk.juice.shares.distinct hshares, hk.juice.filed hshares hring, hlab.keys, hlab.readyOnce, hlab.readyHeld, hlab.oneDay⟩

theorem step_kept {s t : State} (h : step s = .next t) : (QueueWithin s → QueueWithin t) ∧
    (OutWithin 16 s → OutWithin 16 t) ∧ TablesKept s t := by
  unfold step at h
  split at h
  next c rest _ =>
    have hkept := exec_tablesKept h
    exact ⟨fun hq => exec_queueWithin (s := { s with pending := rest }) hq h,
      fun ho => exec_outWithin (s := { s with pending := rest }) ho h,
      hkept.weigh, hkept.tip, hkept.crush, hkept.juice, hkept.lab⟩
  · cases h
    exact tick_kept s

/-- Settles O7: every unit's operations keep its tables, so every command does, and the counts of a tick keep their keys. -/
theorem stepKeepsCapacities : Obligations.StepKeepsCapacities := by
  refine ⟨fun s t hwithin h => ?_, fun s t hdistinct h => ?_⟩
  · obtain ⟨hqueue, hout, hkept⟩ := step_kept h
    exact withinCapacities_of_kept hqueue hout hkept hwithin
  · exact tablesDistinct_of_kept (step_kept h).2.2 hdistinct

end Sys2Proof.Machine
end
